-- ==== Sys2Proof/Word.lean ====
section
/-! DEFINITION. The plain data widths of the chip: every access of every address space moves one cell, a byte or
a nibble (spec/20_memory.md R60, R64), and every value is unsigned (spec/00_scope.md R9). -/

namespace Sys2Proof

/-- One cell of the register space and of the video memory space (R60). -/
abbrev Byte := BitVec 8

/-- One cell of the colour memory, and one colour index 0 to 15 of a pixel (R60, R99). -/
abbrev Nibble := BitVec 4

/-- An address of the video memory space, `0 .. 0x3FFF` (R60). -/
abbrev MemAddr := BitVec 14

/-- An address of the colour memory space, `0 .. 0x3FF` (R60). -/
abbrev ColAddr := BitVec 10

end Sys2Proof
end

