-- ==== Sys2Proof/Config.lean ====
section
/-! DEFINITION. What an implementation fixes, and the free values. The variant, the number of lines and the
wait-cycle adjustment are parameters of the step relation (spec/10_state.md R35), fixed at construction
(spec/70_reset_and_hazards.md R374); State carries them in one field that no operation changes, so that every
statement about a state covers both variants and every number of lines. -/

namespace Sys2Proof

/-- The two architecture variants, named by their cycles per line (R3). -/
inductive Variant where
  | v63
  | v65
deriving DecidableEq, Repr

/-- `CPL`, the number of cycles per scan line of a variant (R3). -/
def Variant.cyclesPerLine : Variant → Nat
  | .v63 => 63
  | .v65 => 65

/-- The parameters a chip is constructed with (R374). -/
structure Params where
  /-- the architecture variant, that is `CPL` (R3) -/
  variant : Variant
  /-- `TL`, the scan lines of a frame (R4) -/
  totalLines : Nat
  /-- `WAIT_ADJ`, the extra cycles the CPU stays suspended after a run of requests (R7, R165) -/
  waitAdj : Nat
deriving DecidableEq, Repr

/-- `CPL` of a chip (R3). -/
abbrev Params.cyclesPerLine (p : Params) : Nat := p.variant.cyclesPerLine

/-- Construction is refused for a `TL` out of range (R375); a `CPL` other than 63 or 65 cannot be written. -/
def Params.valid (p : Params) : Bool := decide (0xF7 < p.totalLines) && decide (p.totalLines ≤ 512)

/-- FREE VALUE (R62, spec/93_implementation_defined.md I4): what the environment answers to its n-th free bus
read, a `MemRead` of this address. It may be any number; the chip keeps its low 8 bits (R63). -/
opaque Config.memAnswer : Nat → MemAddr → Nat

/-- FREE VALUE (R62, I5): what the environment answers to its n-th free bus read, a `ColRead` of this address.
It may be any number; the chip keeps its low 4 bits (R63). -/
opaque Config.colAnswer : Nat → ColAddr → Nat

end Sys2Proof
end

