-- ==== Sys2Proof/Machine/Geometry.lean ====
section
/-! DEFINITION. The geometry and timing constants of the chip (spec/00_scope.md R5 to R8) and the functions of the
parameters derived from them. -/

namespace Sys2Proof.Machine

/-- `ROW_PIXELS = 8 * CPL`, the pixels of one framebuffer row (R6). -/
def rowPixels (p : Params) : Nat := 8 * p.cyclesPerLine

/-- `SPR0_CYCLE = CPL - 5`, the cycle of sprite 0's pointer read and of the draw (R6). -/
def spr0Cycle (p : Params) : Nat := p.cyclesPerLine - 5

/-- `P(i)`, the cycle of sprite `i`'s pointer read (R6). -/
def pointerCycle (p : Params) (i : Fin 8) : Nat := (spr0Cycle p - 1 + 2 * i.val) % p.cyclesPerLine + 1

/-- `GFX_X0`, the column of the first pixel of graphics column 0 when `XSCROLL = 0` (R6). -/
def gfxX0 : Nat := 24

/-- `DMA_FIRST`, the first line of the bad-line window (R5). -/
def dmaFirst : Nat := 0x30

/-- `DMA_LAST`, the last line of the bad-line window (R5). -/
def dmaLast : Nat := 0xF7

/-- `BA_LEAD`, how many cycles before the first access the bus is requested (R7). -/
def baLead : Nat := 3

/-- The line at which the vertical border opens, by `RSEL` (R8, R251). -/
def vStart (rsel : Bool) : Nat := if rsel then 0x33 else 0x37

/-- The line at which the vertical border closes, by `RSEL` (R8, R251). -/
def vStop (rsel : Bool) : Nat := if rsel then 0xFB else 0xF7

/-- The span of a column, that is which of the five border samples governs it (R255). -/
def spanOf (x : Nat) : Fin 5 :=
  if x < 24 then 0
  else if x < 31 then 1
  else if x < 335 then 2
  else if x < 344 then 3
  else 4

/-- The cycle after `c`, which after the last of a line is cycle 1 (R161). -/
def cycleAfter (p : Params) (c : Nat) : Nat := c % p.cyclesPerLine + 1

/-- `c` is in `BAWindow(i)`: the two data cycles of sprite `i` and the lead before them, wrapping over the line
boundary (R161). -/
def inBAWindow (p : Params) (i : Fin 8) (c : Nat) : Bool :=
  (List.range (baLead + 2)).any fun k =>
    (pointerCycle p i + p.cyclesPerLine - (baLead + 1) + k) % p.cyclesPerLine + 1 == c

/-- `c` is one of the cycles a bad line requests the bus for, 12 to 54 (R161). -/
def inBadLineWindow (c : Nat) : Bool := decide (12 ≤ c) && decide (c ≤ 54)

/-- The eight sprite numbers in the order of the spec's loops `for i in 0..7` (R16). -/
def spriteNumbers : List (Fin 8) := [0, 1, 2, 3, 4, 5, 6, 7]

end Sys2Proof.Machine
end

