-- ==== Sys2Proof/Machine/Memory.lean ====
section
/-! DEFINITION. Sparse storage in one canonical form: a list of (address, value) pairs with strictly rising
addresses and no entry equal to what an unlisted address reads as. It holds the framebuffer rows, and what the
environment keeps behind the video memory and the colour memory. -/

namespace Sys2Proof.Machine

/-- Sparse storage, by address. `Memory Byte` is a list of the host's cells. -/
abbrev Memory (α : Type) := List (Nat × α)

/-- The value listed at an address, if one is. -/
def Memory.find {α : Type} : Memory α → Nat → Option α
  | [], _ => none
  | (b, v) :: m, a => if b = a then some v else Memory.find m a

/-- The storage without an entry at an address. -/
def Memory.erase {α : Type} : Memory α → Nat → Memory α
  | [], _ => []
  | (b, v) :: m, a => if b = a then Memory.erase m a else (b, v) :: Memory.erase m a

/-- The storage with an entry put in its place by address, in front of the first larger address. -/
def Memory.insert {α : Type} : Memory α → Nat → α → Memory α
  | [], a, v => [(a, v)]
  | (b, w) :: m, a, v => if a < b then (a, v) :: (b, w) :: m else (b, w) :: Memory.insert m a v

/-- Store a value: an old entry goes, and a new one is listed unless it equals the `blank` an unlisted address
reads as (`none`: no value is excluded). -/
def Memory.write {α : Type} [DecidableEq α] (blank : Option α) (m : Memory α) (a : Nat) (v : α) : Memory α :=
  if blank = some v then Memory.erase m a else Memory.insert (Memory.erase m a) a v

/-- The addresses rise strictly from `low` on, and none is `top` or above. -/
def Memory.rising {α : Type} (top : Nat) : Nat → Memory α → Bool
  | _, [] => true
  | low, (b, _) :: m => decide (low ≤ b) && decide (b < top) && Memory.rising top (b + 1) m

/-- The canonical form: addresses strictly rising below `top`, and no entry equal to `blank`. -/
def Memory.wf {α : Type} [DecidableEq α] (top : Nat) (blank : Option α) (m : Memory α) : Bool :=
  Memory.rising top 0 m && m.all fun e => decide (blank ≠ some e.2)

end Sys2Proof.Machine
end

