-- ==== Sys2Proof/Machine/State.lean ====
section
/-! DEFINITION. The whole state of the chip as plain data (spec/10_state.md R10 to R35), grouped as the spec's data
model groups it, with the environment's side of the interface beside it (assumption 2), and its value after reset
(R50). -/

namespace Sys2Proof.Machine

/-- `CycleCursor` (R12): the chip's program counter. -/
@[ext]
structure Cursor where
  /-- the raster line, 9 bits as seen through the port -/
  scanline : BitVec 9
  /-- the cycle being executed, or between steps the one the next step will execute; 1-based -/
  cycleInLine : Nat
  /-- `G`, the steps executed since reset modulo `2^64` -/
  globalCycleCounter : BitVec 64
deriving DecidableEq, Repr

/-- `DisplayState` (R13). -/
@[ext]
structure Display where
  isBadLine : Bool
  badLinesEnabledThisFrame : Bool
  displayActive : Bool
  rowCounter : BitVec 3
  videoCounter : BitVec 10
  videoCounterBase : BitVec 10
deriving DecidableEq, Repr

/-- `LineBuffers` (R15): the 40 columns of the video matrix fetched on the last bad line. -/
@[ext]
structure LineBuffers where
  matrixLine : Vector Byte 40
  colorLine : Vector Nibble 40
deriving DecidableEq, Repr

/-- One sprite unit (R16). -/
@[ext]
structure SpriteUnit where
  dataPointer : Byte
  mcBase : BitVec 6
  mc : BitVec 6
  dmaEnabled : Bool
  yExpansionLatch : Bool
  displayEnabled : Bool
  /-- four elements, of which the fourth is never written after reset and never read (R16) -/
  fetchedData : Vector Byte 4
deriving DecidableEq, Repr

/-- `CollisionBuffers` (R17): per pixel, bit `i` for sprite `i`; `ROW_PIXELS` elements each. -/
@[ext]
structure CollisionBuffers where
  spriteCollision : List Byte
  foregroundCollision : List Byte
deriving DecidableEq, Repr

/-- The graphics line buffer (R18): the pixels and foreground bits of the current line; `ROW_PIXELS` elements each. -/
@[ext]
structure GraphicsLine where
  gfxColor : List Nibble
  gfxFg : List Bool
deriving DecidableEq, Repr

/-- `BorderState` (R19): two flip-flops and the five samples of each. -/
@[ext]
structure Border where
  verticalBorderOn : Bool
  horizontalBorderOn : Bool
  sampleV : Vector Bool 5
  sampleH : Vector Bool 5
deriving DecidableEq, Repr

/-- The light-pen state (R31). -/
@[ext]
structure LightPen where
  lpPrev : Bool
  lpTriggeredThisFrame : Bool
deriving DecidableEq, Repr

/-- The arbiter state (R32). -/
@[ext]
structure Arbiter where
  cpuSuspended : Bool
  busOwnedSince : BitVec 64
  resumeCountdown : Nat
  busRequestedPrev : Bool
deriving DecidableEq, Repr

/-- An item of the step in progress that has not run yet (R121): a micro-operation word of the descriptor, the
arbitration between the `pre` triggers and the bus operations, or the cursor advance at the end. -/
inductive Work where
  | word (w : Byte)
  | arbitrate
  | advance
deriving DecidableEq, Repr

/-- What an agent outside the chip does between two steps (R2). -/
inductive Request where
  /-- the scheduler calls `STEP` -/
  | tick
  /-- the CPU makes a port transaction: the port word in a byte, and the data byte (unused by a read) -/
  | port (word data : Byte)
  /-- the reset source performs `RESET` -/
  | reset
  /-- the light-pen source changes its button level and position -/
  | pen (button : Bool) (x y : Int)
  /-- what lies behind a video memory address will answer this byte from now on -/
  | memory (a : MemAddr) (v : Byte)
  /-- what lies behind a colour memory address will answer this nibble from now on -/
  | colour (a : ColAddr) (v : Nibble)
deriving DecidableEq, Repr

/-- An event the environment can observe (R381). -/
inductive Event where
  | memRead (a : MemAddr) (v : Byte)
  | colRead (a : ColAddr) (v : Nibble)
  | suspendCpu
  | resumeCpu
  | setIrqLine (level : Bool)
  | lpButton (b : Bool)
  | lpX (n : Int)
  | lpY (n : Int)
deriving DecidableEq, Repr

/-- The environment's side of the interface. It is no chip state (R35) but an input and an output of every step,
held as data so that the step is one function of the state (assumption 2). -/
@[ext]
structure Environment where
  /-- what the agents do next, between steps, in order; when it is empty the scheduler steps the chip -/
  requests : List Request
  /-- the level of `LpButton()` -/
  penButton : Bool
  /-- the value of `LpX()` -/
  penX : Int
  /-- the value of `LpY()` -/
  penY : Int
  /-- the video memory addresses whose answer is known; any other address answers a free value (assumption 3) -/
  videoMemory : List Host.Cell
  /-- the colour memory addresses whose answer is known; any other answers a free value -/
  colourMemory : Memory Nibble
  /-- how many bus reads have been made: the model's own counter, which numbers the free answers -/
  busReads : Nat
  /-- the event trace (R381), the newest event first, each with the `G` of its step -/
  events : List (BitVec 64 × Event)
  /-- the byte the last `RD` returned, if one has been made -/
  portOut : Option Byte
deriving DecidableEq, Repr

/-- The state: the parameters, every element of spec/10_state.md, the step in progress, the environment. -/
@[ext]
structure State where
  /-- the parameters of construction; no operation changes them (R374) -/
  params : Params
  /-- the stored bytes of the register bank, `reg[0x00 .. 0x2E]`; `0x2F .. 0x3F` have no storage (R10, R29) -/
  regs : Vector Byte 47
  /-- the four interrupt flags (R30) -/
  irqFlags : BitVec 4
  cursor : Cursor
  display : Display
  /-- the refresh counter (R14) -/
  refreshCounter : Byte
  lines : LineBuffers
  sprites : Vector SpriteUnit 8
  collision : CollisionBuffers
  gfxLine : GraphicsLine
  border : Border
  pen : LightPen
  arbiter : Arbiter
  /-- the framebuffer rows by scan line (R33); a row not listed is all colour 0 -/
  framebuffer : Memory (List Nibble)
  /-- the items of the step in progress still to run (R121); empty between steps -/
  agenda : List Work
  env : Environment
deriving DecidableEq, Repr

/-- Why the machine stops with a fault. No operation of the chip faults (R340); this one is left for the states in
which R120 does not define `STEP`. -/
inductive Fault where
  /-- raised when a step is to begin and `cycleInLine` names no cycle of the table, which no run reaches (R12,
  R120). Safe: the model stops where the spec defines nothing. -/
  | cursorOffTable (cycle : Nat)
deriving DecidableEq, Repr

/-- Why an instruction is refused. -/
inductive Refusal where
  /-- raised by `exec` alone, for an instruction without a meaning; no arm does so now. Safe. -/
  | notModelled (mnemonic : String)
  /-- raised by GFX and MATRIX in a cycle that gives them no column 0 to 39 (R95); the tables never place them
  there. Safe: the spec gives no effect. -/
  | noColumn (cycle : Nat)
  /-- raised when the step in progress holds a word R100 reserves ("refuse them"); the tables hold none. Safe. -/
  | reservedMicroOp (w : Byte)
  /-- raised for a port word of more than 7 bits, which no caller may send (R90, R270). Safe. -/
  | notAPortWord (w : Byte)
deriving DecidableEq, Repr

/-- What an operation answers. -/
abbrev Result := Host.Outcome State Fault Refusal

/-- A sprite unit after reset (R50). -/
def SpriteUnit.reset : SpriteUnit where
  dataPointer := 0
  mcBase := 0
  mc := 63
  dmaEnabled := false
  yExpansionLatch := true
  displayEnabled := false
  fetchedData := Vector.replicate 4 0

/-- Every state element at its reset value (R50), for given parameters, step in progress and environment. -/
def State.atReset (p : Params) (e : Environment) : State where
  params := p
  regs := Vector.replicate 47 0
  irqFlags := 0
  cursor := ⟨0, 1, 0⟩
  display := ⟨false, false, false, 0, 0, 0⟩
  refreshCounter := 0xFF
  lines := ⟨Vector.replicate 40 0, Vector.replicate 40 0⟩
  sprites := Vector.replicate 8 SpriteUnit.reset
  collision := ⟨List.replicate (rowPixels p) 0, List.replicate (rowPixels p) 0⟩
  gfxLine := ⟨List.replicate (rowPixels p) 0, List.replicate (rowPixels p) false⟩
  border := ⟨true, true, Vector.replicate 5 true, Vector.replicate 5 true⟩
  pen := ⟨false, false⟩
  arbiter := ⟨false, 0, 0, false⟩
  framebuffer := []
  agenda := []
  env := e

/-- The environment before anything has happened: no request pending, the light-pen button not pressed (the default
of R102), no address with a known answer, no event. -/
def Environment.initial : Environment where
  requests := []
  penButton := false
  penX := 0
  penY := 0
  videoMemory := []
  colourMemory := []
  busReads := 0
  events := []
  portOut := none

/-- Construction (R374): the state of `RESET`, and no chip when the parameters are out of range (R375). -/
def State.construct (p : Params) : Option State :=
  if p.valid then some (State.atReset p .initial) else none

/-- The parameters of `State.reset`: V63, 312 lines, no wait-cycle adjustment (assumption 1). -/
def Params.default : Params := ⟨.v63, 312, 0⟩

/-- The machine right after reset (R50). -/
def State.reset : State := State.atReset Params.default .initial

end Sys2Proof.Machine
end

