-- ==== Sys2Proof/Machine/Operands.lean ====
section
/-! DEFINITION. The operands of the operations: the stored register bytes, the named fields of spec/10_state.md
R20 to R29 and R34, and the bus addresses of spec/20_memory.md R69 to R78. -/

namespace Sys2Proof.Machine

/-- `reg[a]`, the stored byte at a register address; 0 where there is no storage, which no rule reads (R29). -/
def State.reg (s : State) (a : Nat) : Byte := (s.regs[a]?).getD 0

/-- Bits 3:0 of a stored byte, the colour a colour register holds (R29). -/
def State.colourOf (s : State) (a : Nat) : Nibble := (s.reg a).extractLsb' 0 4

/-- `ECM`, extended-colour mode (R22). -/
def State.ecm (s : State) : Bool := (s.reg 0x11).getLsbD 6

/-- `BMM`, bitmap mode (R22). -/
def State.bmm (s : State) : Bool := (s.reg 0x11).getLsbD 5

/-- `DEN`, display enable (R22). -/
def State.den (s : State) : Bool := (s.reg 0x11).getLsbD 4

/-- `RSEL`, 25 rows when set (R22). -/
def State.rsel (s : State) : Bool := (s.reg 0x11).getLsbD 3

/-- `YSCROLL` (R22). -/
def State.yscroll (s : State) : BitVec 3 := (s.reg 0x11).extractLsb' 0 3

/-- `MCM`, multicolour mode (R24). -/
def State.mcm (s : State) : Bool := (s.reg 0x16).getLsbD 4

/-- `CSEL`, 40 columns when set (R24). -/
def State.csel (s : State) : Bool := (s.reg 0x16).getLsbD 3

/-- `XSCROLL` (R24). -/
def State.xscroll (s : State) : BitVec 3 := (s.reg 0x16).extractLsb' 0 3

/-- `VM`, the upper address bits of the video matrix (R27). -/
def State.vm (s : State) : BitVec 4 := (s.reg 0x18).extractLsb' 4 4

/-- `CB`, the upper address bits of the character generator (R27). -/
def State.cb (s : State) : BitVec 3 := (s.reg 0x18).extractLsb' 1 3

/-- `CB13`, the upper address bit of the bitmap (R27). -/
def State.cb13 (s : State) : BitVec 1 := (s.reg 0x18).extractLsb' 3 1

/-- `rasterCompare = reg[0x11][7] : reg[0x12]` (R23). -/
def State.rasterCompare (s : State) : BitVec 9 := (s.reg 0x11).extractLsb' 7 1 ++ s.reg 0x12

/-- `irqMask = reg[0x1A][3:0]` (R28, R30). -/
def State.irqMask (s : State) : BitVec 4 := (s.reg 0x1A).extractLsb' 0 4

/-- `MxX(i) = reg[0x10][i] : reg[2*i]` (R21). -/
def State.spriteX (s : State) (i : Fin 8) : BitVec 9 :=
  BitVec.ofBool ((s.reg 0x10).getLsbD i) ++ s.reg (2 * i)

/-- `MxY(i) = reg[2*i + 1]` (R20). -/
def State.spriteY (s : State) (i : Fin 8) : Byte := s.reg (2 * i + 1)

/-- `MxE(i)`, sprite enabled (R26). -/
def State.spriteEnabled (s : State) (i : Fin 8) : Bool := (s.reg 0x15).getLsbD i

/-- `MxYE(i)`, Y expansion (R26). -/
def State.spriteYExpanded (s : State) (i : Fin 8) : Bool := (s.reg 0x17).getLsbD i

/-- `MxDP(i)`, behind foreground graphics (R26). -/
def State.spriteBehind (s : State) (i : Fin 8) : Bool := (s.reg 0x1B).getLsbD i

/-- `MxMC(i)`, multicolour (R26). -/
def State.spriteMulticolour (s : State) (i : Fin 8) : Bool := (s.reg 0x1C).getLsbD i

/-- `MxXE(i)`, X expansion (R26). -/
def State.spriteXExpanded (s : State) (i : Fin 8) : Bool := (s.reg 0x1D).getLsbD i

/-- `MxC(i)`, the sprite's own colour, `reg[0x27 + i][3:0]` (R11, R232). -/
def State.spriteColour (s : State) (i : Fin 8) : Nibble := s.colourOf (0x27 + i)

/-- `bg[n] = reg[0x21 + n][3:0]`, background colour `n` (R192). -/
def State.background (s : State) (n : BitVec 2) : Nibble := s.colourOf (0x21 + n.toNat)

/-- `mode = ECM : BMM : MCM` (R34, R191). -/
def State.mode (s : State) : BitVec 3 := BitVec.ofBool s.ecm ++ BitVec.ofBool s.bmm ++ BitVec.ofBool s.mcm

/-- The raster line matches a sprite's Y coordinate: the low 8 bits are compared (R219, R221). -/
def State.spriteYMatches (s : State) (i : Fin 8) : Bool := s.spriteY i == s.cursor.scanline.extractLsb' 0 8

/-- The MATRIX address in video memory, `VM : videoCounter` (R69). -/
def State.matrixAddress (s : State) : MemAddr := s.vm ++ s.display.videoCounter

/-- The MATRIX address in colour memory, `videoCounter` (R70). -/
def State.matrixColourAddress (s : State) : ColAddr := s.display.videoCounter

/-- The ECM address mask: bits 10 and 9 forced to 0 when `ECM = 1` (R73). -/
def State.ecmMasked (s : State) (a : MemAddr) : MemAddr := if s.ecm then a &&& 0x39FF else a

/-- The GFX address in display state, `cd` the matrix byte of the column: the bitmap byte (R72) or the character
row (R71), then the ECM mask (R73). -/
def State.displayAddress (s : State) (cd : Byte) : MemAddr :=
  s.ecmMasked <|
    if s.bmm then s.cb13 ++ s.display.videoCounter ++ s.display.rowCounter
    else s.cb ++ cd ++ s.display.rowCounter

/-- The GFX address in idle state (R74). -/
def State.idleGfxAddress (s : State) : MemAddr := if s.ecm then 0x39FF else 0x3FFF

/-- The SPTR address, `VM : 0b1111111 : i` (R75). -/
def State.pointerAddress (s : State) (i : Fin 8) : MemAddr := s.vm ++ 0x7F#7 ++ BitVec.ofFin (w := 3) i

/-- The SDATA address with DMA on, `dataPointer : mc` (R76). -/
def SpriteUnit.dataAddress (u : SpriteUnit) : MemAddr := u.dataPointer ++ u.mc

/-- The REFRESH address (R77). -/
def State.refreshAddress (s : State) : MemAddr := 0x3F#6 ++ s.refreshCounter

/-- The IDLE address, also that of SDATA with DMA off (R78). -/
def idleAddress : MemAddr := 0x3FFF

end Sys2Proof.Machine
end

