-- ==== Sys2Proof/Machine/Flags.lean ====
section
/-! DEFINITION. The flags the chip computes: the interrupt flags and the level they drive (spec/60_exceptions.md
R341 to R344), the collision masks, and the value the flag register reads as (spec/46_register_port.md R296). -/

namespace Sys2Proof.Machine

/-- `eventMask` of the raster-line match (R103, R341). -/
def flagRaster : BitVec 4 := 0x1

/-- `eventMask` of the sprite-background collision (R103, R341). -/
def flagSpriteBackground : BitVec 4 := 0x2

/-- `eventMask` of the sprite-sprite collision (R103, R341). -/
def flagSpriteSprite : BitVec 4 := 0x4

/-- `eventMask` of the light-pen trigger (R103, R341). -/
def flagLightPen : BitVec 4 := 0x8

/-- `irqLine = (irqFlags and irqMask) != 0`, derived and never stored (R343). -/
def State.irqLine (s : State) : Bool := decide (s.irqFlags &&& s.irqMask ≠ 0)

/-- What `RD 0x19` returns: `irqLine` in bit 7, 1s in bits 6:4, the flags in bits 3:0 (R296). -/
def State.flagRegister (s : State) : Byte := BitVec.ofBool s.irqLine ++ 0b111#3 ++ s.irqFlags

/-- How many sprites a collision mask names: `popcount` of R230. -/
def spriteCount (m : Byte) : Nat := (spriteNumbers.filter fun i => m.getLsbD i).length

/-- The sprites that collided with another sprite on a line, from the per-pixel masks: those of every pixel that
two or more sprites share (R230, R236). -/
def spriteSpriteMask (masks : List Byte) : Byte :=
  masks.foldl (fun ss m => if 2 ≤ spriteCount m then ss ||| m else ss) 0

/-- The sprites that collided with the foreground on a line, from the per-pixel masks (R230, R236). -/
def spriteBackgroundMask (masks : List Byte) : Byte := masks.foldl (fun sb m => sb ||| m) 0

end Sys2Proof.Machine
end

