-- ==== Sys2Proof/Machine/Ops.lean ====
section
/-! DEFINITION. The shared operations: register storage, the two bus reads (spec/20_memory.md R62, R63), the event
trace (spec/70_reset_and_hazards.md R381), sprite units, and the interrupt output. The chip takes no exception: it
raises flags and drives one level (spec/60_exceptions.md R340, R348); `raiseIrq` is that one shared entry, and
`acknowledgeIrq` what stands beside it in place of a return (R349). -/

namespace Sys2Proof.Machine

/-- Run `f` on the next state; a fault or a refusal stands. -/
def Result.andThen (r : Result) (f : State → Result) : Result :=
  match r with
  | .next s => f s
  | .fault e => .fault e
  | .refused e => .refused e

/-- Add an event to the trace, with the `G` of the step, or between steps of the next one (R381). -/
def State.emit (s : State) (e : Event) : State :=
  { s with env := { s.env with events := (s.cursor.globalCycleCounter, e) :: s.env.events } }

/-- `reg[a] <- v`; nothing where there is no storage (R10, R29). -/
def State.setReg (s : State) (a : Nat) (v : Byte) : State := { s with regs := s.regs.setIfInBounds a v }

/-- The byte a `MemRead` is answered with: the known answer of the address, else a free value, of which the chip
keeps the low 8 bits (R62, R63). -/
def State.memAnswer (s : State) (a : MemAddr) : Byte :=
  match Memory.find s.env.videoMemory a.toNat with
  | some v => v
  | none => BitVec.ofNat 8 (Config.memAnswer s.env.busReads a)

/-- The nibble a `ColRead` is answered with (R62, R63). -/
def State.colAnswer (s : State) (a : ColAddr) : Nibble :=
  match Memory.find s.env.colourMemory a.toNat with
  | some v => v
  | none => BitVec.ofNat 4 (Config.colAnswer s.env.busReads a)

/-- Count one bus read, so that the next free answer is another one (R62: not even the same address need give the
same answer twice). -/
def State.countRead (s : State) : State := { s with env := { s.env with busReads := s.env.busReads + 1 } }

/-- The state after a `MemRead`: one event, no chip state (R62, R66). -/
def State.afterMemRead (s : State) (a : MemAddr) : State := (s.emit (.memRead a (s.memAnswer a))).countRead

/-- The state after a `ColRead`: one event, no chip state (R62, R66). -/
def State.afterColRead (s : State) (a : ColAddr) : State := (s.emit (.colRead a (s.colAnswer a))).countRead

/-- Tell the interrupt sink the level when it is no longer the level `was` that it was last told (R343). -/
def State.reportIrq (was : Bool) (s : State) : State :=
  if s.irqLine = was then s else s.emit (.setIrqLine s.irqLine)

/-- `irqFlags <- irqFlags or eventMask`, and the sink told of a change (R341, R343). -/
def State.raiseIrq (s : State) (mask : BitVec 4) : State :=
  State.reportIrq s.irqLine { s with irqFlags := s.irqFlags ||| mask }

/-- `irqFlags <- irqFlags and not mask`, and the sink told of a change (R296, R343, R349). -/
def State.acknowledgeIrq (s : State) (mask : BitVec 4) : State :=
  State.reportIrq s.irqLine { s with irqFlags := s.irqFlags &&& ~~~mask }

/-- Apply a change to every sprite unit; the loops `for i in 0..7` of the sprite triggers, whose turns are
independent of each other (R215). -/
def State.mapSprites (s : State) (f : Fin 8 → SpriteUnit → SpriteUnit) : State :=
  { s with sprites := Vector.ofFn fun i => f i s.sprites[i] }

/-- Apply a change to one sprite unit. -/
def State.mapSprite (s : State) (i : Fin 8) (f : SpriteUnit → SpriteUnit) : State :=
  { s with sprites := s.sprites.set i (f s.sprites[i]) }

/-- A port read that returns a byte and changes nothing of the chip (R270). -/
def State.portReturn (s : State) (v : Byte) : State := { s with env := { s.env with portOut := some v } }

/-- `RD a` of an address whose unused bits read as 1s: `reg[a] or ones` (R319). -/
def readStored (a : Nat) (ones : Byte) (s : State) : Result := .next (s.portReturn (s.reg a ||| ones))

/-- `WR a, v` of an address that stores the byte as written (R320). -/
def writeStored (a : Nat) (v : Byte) (s : State) : Result := .next (s.setReg a v)

/-- `WR a, v` of an address that ignores writes: no state changes (R320). -/
def writeIgnored (_v : Byte) (s : State) : Result := .next s

/-- `RD a` of a collision register: the byte is returned and the register cleared (R301, R302). -/
def readAndClear (a : Nat) (s : State) : Result := .next ((s.portReturn (s.reg a)).setReg a 0)

/-- `RD a` of an unused address: every bit reads as 1 (R318). -/
def readUnused (s : State) : Result := .next (s.portReturn 0xFF)

end Sys2Proof.Machine
end

