-- ==== Sys2Proof/Machine/Arbiter.lean ====
section
/-! DEFINITION. The bus arbiter (spec/41_bus_arbiter.md R161, R163). -/

namespace Sys2Proof.Machine

/-- `BusRequest(c)` (R161). -/
def State.busRequest (s : State) (c : Nat) : Bool :=
  (s.display.isBadLine && inBadLineWindow c) ||
  spriteNumbers.any fun i => s.sprites[i].dmaEnabled && inBAWindow s.params i c

/-- Arbitrate in a requesting cycle: the first request of a run is timed, the CPU is suspended once, and the
countdown is loaded (R163). -/
def State.seizeBus (s : State) : State :=
  let s1 := if s.arbiter.cpuSuspended then s else s.emit .suspendCpu
  { s1 with arbiter :=
    { cpuSuspended := true
      busOwnedSince := if s.arbiter.busRequestedPrev then s.arbiter.busOwnedSince else s.cursor.globalCycleCounter
      resumeCountdown := s.params.waitAdj
      busRequestedPrev := true } }

/-- Arbitrate in any other cycle: a suspended CPU is resumed when the countdown is over (R163). -/
def State.releaseBus (s : State) : State :=
  if s.arbiter.cpuSuspended then
    if s.arbiter.resumeCountdown = 0 then
      { s.emit .resumeCpu with arbiter := { s.arbiter with cpuSuspended := false, busRequestedPrev := false } }
    else
      { s with arbiter :=
        { s.arbiter with resumeCountdown := s.arbiter.resumeCountdown - 1, busRequestedPrev := false } }
  else { s with arbiter := { s.arbiter with busRequestedPrev := false } }

/-- `Arbitrate(c)`, `c` the cycle being executed (R163). -/
def State.arbitrate (s : State) : State :=
  if s.busRequest s.cursor.cycleInLine then s.seizeBus else s.releaseBus

end Sys2Proof.Machine
end

