-- ==== Sys2Proof/Syntax.lean ====
section
/-! DEFINITION. The instructions: one constructor per row of spec/opcode_table.json. The 98 port rows are the
transactions of the register port (spec/30_encoding.md R90, R91), the 26 micro-operation rows the entries of the
cycle descriptors (R95, R96). Operands have the widths of their fields, so that the encodings R100 reserves cannot
be written as an instruction. -/

namespace Sys2Proof

/-- A port transaction or a micro-operation. `v` is the data byte of a write, `low` the low four address bits of
the unused range `0x30 .. 0x3F`, `i` a sprite number, `cs` the CSEL value an edge check belongs to. -/
inductive Instr where
  /-- `RD 0x00` (M0X), R271 -/
  | rd00
  /-- `WR 0x00, v` (M0X), R271 -/
  | wr00 (v : Byte)
  /-- `RD 0x01` (M0Y), R272 -/
  | rd01
  /-- `WR 0x01, v` (M0Y), R272 -/
  | wr01 (v : Byte)
  /-- `RD 0x02` (M1X), R273 -/
  | rd02
  /-- `WR 0x02, v` (M1X), R273 -/
  | wr02 (v : Byte)
  /-- `RD 0x03` (M1Y), R274 -/
  | rd03
  /-- `WR 0x03, v` (M1Y), R274 -/
  | wr03 (v : Byte)
  /-- `RD 0x04` (M2X), R275 -/
  | rd04
  /-- `WR 0x04, v` (M2X), R275 -/
  | wr04 (v : Byte)
  /-- `RD 0x05` (M2Y), R276 -/
  | rd05
  /-- `WR 0x05, v` (M2Y), R276 -/
  | wr05 (v : Byte)
  /-- `RD 0x06` (M3X), R277 -/
  | rd06
  /-- `WR 0x06, v` (M3X), R277 -/
  | wr06 (v : Byte)
  /-- `RD 0x07` (M3Y), R278 -/
  | rd07
  /-- `WR 0x07, v` (M3Y), R278 -/
  | wr07 (v : Byte)
  /-- `RD 0x08` (M4X), R279 -/
  | rd08
  /-- `WR 0x08, v` (M4X), R279 -/
  | wr08 (v : Byte)
  /-- `RD 0x09` (M4Y), R280 -/
  | rd09
  /-- `WR 0x09, v` (M4Y), R280 -/
  | wr09 (v : Byte)
  /-- `RD 0x0A` (M5X), R281 -/
  | rd0A
  /-- `WR 0x0A, v` (M5X), R281 -/
  | wr0A (v : Byte)
  /-- `RD 0x0B` (M5Y), R282 -/
  | rd0B
  /-- `WR 0x0B, v` (M5Y), R282 -/
  | wr0B (v : Byte)
  /-- `RD 0x0C` (M6X), R283 -/
  | rd0C
  /-- `WR 0x0C, v` (M6X), R283 -/
  | wr0C (v : Byte)
  /-- `RD 0x0D` (M6Y), R284 -/
  | rd0D
  /-- `WR 0x0D, v` (M6Y), R284 -/
  | wr0D (v : Byte)
  /-- `RD 0x0E` (M7X), R285 -/
  | rd0E
  /-- `WR 0x0E, v` (M7X), R285 -/
  | wr0E (v : Byte)
  /-- `RD 0x0F` (M7Y), R286 -/
  | rd0F
  /-- `WR 0x0F, v` (M7Y), R286 -/
  | wr0F (v : Byte)
  /-- `RD 0x10` (MSIGX), R287 -/
  | rd10
  /-- `WR 0x10, v` (MSIGX), R287 -/
  | wr10 (v : Byte)
  /-- `RD 0x11` (CR1), R288 -/
  | rd11
  /-- `WR 0x11, v` (CR1), R288 -/
  | wr11 (v : Byte)
  /-- `RD 0x12` (RASTER), R289 -/
  | rd12
  /-- `WR 0x12, v` (RASTER), R289 -/
  | wr12 (v : Byte)
  /-- `RD 0x13` (LPX), R290 -/
  | rd13
  /-- `WR 0x13, v` (LPX), R290 -/
  | wr13 (v : Byte)
  /-- `RD 0x14` (LPY), R291 -/
  | rd14
  /-- `WR 0x14, v` (LPY), R291 -/
  | wr14 (v : Byte)
  /-- `RD 0x15` (SPENA), R292 -/
  | rd15
  /-- `WR 0x15, v` (SPENA), R292 -/
  | wr15 (v : Byte)
  /-- `RD 0x16` (CR2), R293 -/
  | rd16
  /-- `WR 0x16, v` (CR2), R293 -/
  | wr16 (v : Byte)
  /-- `RD 0x17` (YXPAND), R294 -/
  | rd17
  /-- `WR 0x17, v` (YXPAND), R294 -/
  | wr17 (v : Byte)
  /-- `RD 0x18` (VMCSB), R295 -/
  | rd18
  /-- `WR 0x18, v` (VMCSB), R295 -/
  | wr18 (v : Byte)
  /-- `RD 0x19` (VICIRQ), R296 -/
  | rd19
  /-- `WR 0x19, v` (VICIRQ), R296 -/
  | wr19 (v : Byte)
  /-- `RD 0x1A` (IRQMASK), R297 -/
  | rd1A
  /-- `WR 0x1A, v` (IRQMASK), R297 -/
  | wr1A (v : Byte)
  /-- `RD 0x1B` (SPBGPR), R298 -/
  | rd1B
  /-- `WR 0x1B, v` (SPBGPR), R298 -/
  | wr1B (v : Byte)
  /-- `RD 0x1C` (SPMC), R299 -/
  | rd1C
  /-- `WR 0x1C, v` (SPMC), R299 -/
  | wr1C (v : Byte)
  /-- `RD 0x1D` (XXPAND), R300 -/
  | rd1D
  /-- `WR 0x1D, v` (XXPAND), R300 -/
  | wr1D (v : Byte)
  /-- `RD 0x1E` (SPSPCL), R301 -/
  | rd1E
  /-- `WR 0x1E, v` (SPSPCL), R301 -/
  | wr1E (v : Byte)
  /-- `RD 0x1F` (SPBGCL), R302 -/
  | rd1F
  /-- `WR 0x1F, v` (SPBGCL), R302 -/
  | wr1F (v : Byte)
  /-- `RD 0x20` (EC), R303 -/
  | rd20
  /-- `WR 0x20, v` (EC), R303 -/
  | wr20 (v : Byte)
  /-- `RD 0x21` (B0C), R304 -/
  | rd21
  /-- `WR 0x21, v` (B0C), R304 -/
  | wr21 (v : Byte)
  /-- `RD 0x22` (B1C), R305 -/
  | rd22
  /-- `WR 0x22, v` (B1C), R305 -/
  | wr22 (v : Byte)
  /-- `RD 0x23` (B2C), R306 -/
  | rd23
  /-- `WR 0x23, v` (B2C), R306 -/
  | wr23 (v : Byte)
  /-- `RD 0x24` (B3C), R307 -/
  | rd24
  /-- `WR 0x24, v` (B3C), R307 -/
  | wr24 (v : Byte)
  /-- `RD 0x25` (MM0), R308 -/
  | rd25
  /-- `WR 0x25, v` (MM0), R308 -/
  | wr25 (v : Byte)
  /-- `RD 0x26` (MM1), R309 -/
  | rd26
  /-- `WR 0x26, v` (MM1), R309 -/
  | wr26 (v : Byte)
  /-- `RD 0x27` (M0C), R310 -/
  | rd27
  /-- `WR 0x27, v` (M0C), R310 -/
  | wr27 (v : Byte)
  /-- `RD 0x28` (M1C), R311 -/
  | rd28
  /-- `WR 0x28, v` (M1C), R311 -/
  | wr28 (v : Byte)
  /-- `RD 0x29` (M2C), R312 -/
  | rd29
  /-- `WR 0x29, v` (M2C), R312 -/
  | wr29 (v : Byte)
  /-- `RD 0x2A` (M3C), R313 -/
  | rd2A
  /-- `WR 0x2A, v` (M3C), R313 -/
  | wr2A (v : Byte)
  /-- `RD 0x2B` (M4C), R314 -/
  | rd2B
  /-- `WR 0x2B, v` (M4C), R314 -/
  | wr2B (v : Byte)
  /-- `RD 0x2C` (M5C), R315 -/
  | rd2C
  /-- `WR 0x2C, v` (M5C), R315 -/
  | wr2C (v : Byte)
  /-- `RD 0x2D` (M6C), R316 -/
  | rd2D
  /-- `WR 0x2D, v` (M6C), R316 -/
  | wr2D (v : Byte)
  /-- `RD 0x2E` (M7C), R317 -/
  | rd2E
  /-- `WR 0x2E, v` (M7C), R317 -/
  | wr2E (v : Byte)
  /-- `RD 0x2F`, unused, R318 -/
  | rd2F
  /-- `RD 0x30 .. 0x3F`, unused, R318 -/
  | rdUnused (low : Nibble)
  /-- `WR 0x2F, v`, unused, R318 -/
  | wr2F (v : Byte)
  /-- `WR 0x30 .. 0x3F, v`, unused, R318 -/
  | wrUnused (low : Nibble) (v : Byte)
  /-- `IDLE`, R130 -/
  | idle
  /-- `REFRESH`, R131 -/
  | refresh
  /-- `SPTR i`, R216 -/
  | sptr (i : Fin 8)
  /-- `SDATA i.0`, R217 -/
  | sdata0 (i : Fin 8)
  /-- `SDATA i.1`, R217 -/
  | sdata1 (i : Fin 8)
  /-- `SDATA i.2`, R217 -/
  | sdata2 (i : Fin 8)
  /-- `MATRIX`, R179 -/
  | matrix
  /-- `GFX`, R190 -/
  | gfx
  /-- `T_RASTER`, R345 -/
  | tRaster
  /-- `T_BADLINE`, R176 -/
  | tBadline
  /-- `T_VBORDER`, R251 -/
  | tVborder
  /-- `T_CLEARLINE`, R205 -/
  | tClearline
  /-- `T_VCLOAD`, R177 -/
  | tVcload
  /-- `T_SPRADV`, R220 -/
  | tSpradv
  /-- `T_YEXP`, R218 -/
  | tYexp
  /-- `T_DMACHK`, R219 -/
  | tDmachk
  /-- `T_DRAW`, R230 -/
  | tDraw
  /-- `T_SPRDISP`, R221 -/
  | tSprdisp
  /-- `T_RCADV`, R178 -/
  | tRcadv
  /-- `T_HLEFT cs`, R252 -/
  | tHleft (cs : Bool)
  /-- `T_HRIGHT cs`, R253 -/
  | tHright (cs : Bool)
  /-- `T_BSAMPLE 0`, R254 -/
  | tBsample0
  /-- `T_BSAMPLE 1`, R254 -/
  | tBsample1
  /-- `T_BSAMPLE 2`, R254 -/
  | tBsample2
  /-- `T_BSAMPLE 3`, R254 -/
  | tBsample3
  /-- `T_BSAMPLE 4`, R254 -/
  | tBsample4
deriving DecidableEq, Repr

/-- The three kinds of instruction (R2, R94): what the CPU sends to the register port, the bus operations and the
triggers of a cycle descriptor. -/
inductive InstrKind where
  | port
  | busOperation
  | trigger
deriving DecidableEq, Repr

/-- The kind of an instruction: the bus operations are the closed set of six of R94, the triggers those of R96. -/
def Instr.kind : Instr → InstrKind
  | .idle | .refresh | .sptr _ | .sdata0 _ | .sdata1 _ | .sdata2 _ | .matrix | .gfx => .busOperation
  | .tRaster | .tBadline | .tVborder | .tClearline | .tVcload | .tSpradv | .tYexp | .tDmachk | .tDraw
  | .tSprdisp | .tRcadv | .tHleft _ | .tHright _ | .tBsample0 | .tBsample1 | .tBsample2 | .tBsample3
  | .tBsample4 => .trigger
  | .rd00 | .wr00 _ | .rd01 | .wr01 _ | .rd02 | .wr02 _ | .rd03 | .wr03 _ | .rd04 | .wr04 _ | .rd05 | .wr05 _
  | .rd06 | .wr06 _ | .rd07 | .wr07 _ | .rd08 | .wr08 _ | .rd09 | .wr09 _ | .rd0A | .wr0A _ | .rd0B | .wr0B _
  | .rd0C | .wr0C _ | .rd0D | .wr0D _ | .rd0E | .wr0E _ | .rd0F | .wr0F _ | .rd10 | .wr10 _ | .rd11 | .wr11 _
  | .rd12 | .wr12 _ | .rd13 | .wr13 _ | .rd14 | .wr14 _ | .rd15 | .wr15 _ | .rd16 | .wr16 _ | .rd17 | .wr17 _
  | .rd18 | .wr18 _ | .rd19 | .wr19 _ | .rd1A | .wr1A _ | .rd1B | .wr1B _ | .rd1C | .wr1C _ | .rd1D | .wr1D _
  | .rd1E | .wr1E _ | .rd1F | .wr1F _ | .rd20 | .wr20 _ | .rd21 | .wr21 _ | .rd22 | .wr22 _ | .rd23 | .wr23 _
  | .rd24 | .wr24 _ | .rd25 | .wr25 _ | .rd26 | .wr26 _ | .rd27 | .wr27 _ | .rd28 | .wr28 _ | .rd29 | .wr29 _
  | .rd2A | .wr2A _ | .rd2B | .wr2B _ | .rd2C | .wr2C _ | .rd2D | .wr2D _ | .rd2E | .wr2E _ | .rd2F
  | .rdUnused _ | .wr2F _ | .wrUnused _ _ => .port

/-- A cycle descriptor as instructions: the triggers before the bus operations, the bus operations, the triggers
after them (R94). -/
structure Descriptor where
  pre : List Instr
  ops : List Instr
  post : List Instr
deriving DecidableEq, Repr

end Sys2Proof
end

