-- ==== Sys2Proof/WellFormed.lean ====
section
/-! DEFINITION. What an instruction must satisfy beyond its type. The operand fields of `Instr` have exactly the
widths of the encodings, so every term of it is an instruction the chip has; what is left to check is where a
micro-operation may stand: the lists of a cycle descriptor (spec/30_encoding.md R94) and the cycles whose number
names a graphics or matrix column (spec/42_badline_display.md R179, spec/43_graphics.md R190). -/

namespace Sys2Proof

/-- The column of `GFX` is `cycleInLine - 16` and that of `MATRIX` is `cycleInLine - 15`, both 0 to 39 (R95): in
another cycle the operation names no column. Every other instruction may be executed in any cycle. -/
def Instr.wellPlaced (cycle : Nat) : Instr → Bool
  | .gfx => decide (16 ≤ cycle) && decide (cycle ≤ 55)
  | .matrix => decide (15 ≤ cycle) && decide (cycle ≤ 54)
  | _ => true

/-- A descriptor is well formed in a cycle when `pre` and `post` hold triggers only, `ops` holds one bus operation
or more and nothing else (R94), and each operation names a column it has. -/
def Descriptor.wellFormed (cycle : Nat) (d : Descriptor) : Bool :=
  (d.pre.all fun i => decide (i.kind = .trigger)) &&
  (d.post.all fun i => decide (i.kind = .trigger)) &&
  (d.ops.all fun i => decide (i.kind = .busOperation) && i.wellPlaced cycle) &&
  !d.ops.isEmpty

end Sys2Proof
end

