-- ==== Sys2Proof/Decode.lean ====
section
/-! DEFINITION. Decoding and encoding. The chip has two separate encodings (spec/30_encoding.md R90, R95): the
7-bit port word `w : a`, in a byte of its own and followed on a write by the data byte, and the 8-bit
micro-operation word `class : operand`. The two number spaces overlap, so a word is read in a stated format.
Decoding is total and rejects by name (R100); the encoder after it is written from the same tables. -/

namespace Sys2Proof

/-- Which of the two encodings a word belongs to (R90, R95). -/
inductive Format where
  | port
  | microOp
deriving DecidableEq, Repr

/-- Why bytes are no instruction. -/
inductive DecodeError where
  /-- no byte is left, or the data byte of a port write is missing -/
  | truncated
  /-- a port word has 7 bits; in this byte bit 7 is set (R90) -/
  | notAPortWord (b : Byte)
  /-- the micro-operation word is one R100 reserves -/
  | reservedMicroOp (b : Byte)
deriving DecidableEq, Repr

/-- The read operations of the addresses `0x00 .. 0x2F`, in order (R91). -/
def portReads : List Instr :=
  ([.rd00, .rd01, .rd02, .rd03, .rd04, .rd05, .rd06, .rd07, .rd08, .rd09, .rd0A, .rd0B] : List Instr) ++
  ([.rd0C, .rd0D, .rd0E, .rd0F, .rd10, .rd11, .rd12, .rd13, .rd14, .rd15, .rd16, .rd17] : List Instr) ++
  ([.rd18, .rd19, .rd1A, .rd1B, .rd1C, .rd1D, .rd1E, .rd1F, .rd20, .rd21, .rd22, .rd23] : List Instr) ++
  ([.rd24, .rd25, .rd26, .rd27, .rd28, .rd29, .rd2A, .rd2B, .rd2C, .rd2D, .rd2E, .rd2F] : List Instr)

/-- The write operations of the addresses `0x00 .. 0x2F`, in order (R91). -/
def portWrites : List (Byte → Instr) :=
  ([.wr00, .wr01, .wr02, .wr03, .wr04, .wr05, .wr06, .wr07, .wr08, .wr09, .wr0A, .wr0B] : List (Byte → Instr)) ++
  ([.wr0C, .wr0D, .wr0E, .wr0F, .wr10, .wr11, .wr12, .wr13, .wr14, .wr15, .wr16, .wr17] : List (Byte → Instr)) ++
  ([.wr18, .wr19, .wr1A, .wr1B, .wr1C, .wr1D, .wr1E, .wr1F, .wr20, .wr21, .wr22, .wr23] : List (Byte → Instr)) ++
  ([.wr24, .wr25, .wr26, .wr27, .wr28, .wr29, .wr2A, .wr2B, .wr2C, .wr2D, .wr2E, .wr2F] : List (Byte → Instr))

/-- The read operation of a 6-bit address; from `0x30` on it is the one unused row (R91). -/
def readOperation (a : BitVec 6) : Instr :=
  match portReads[a.toNat]? with
  | some i => i
  | none => .rdUnused (a.extractLsb' 0 4)

/-- The write operation of a 6-bit address; from `0x30` on it is the one unused row (R91). -/
def writeOperation (a : BitVec 6) (v : Byte) : Instr :=
  match portWrites[a.toNat]? with
  | some i => i v
  | none => .wrUnused (a.extractLsb' 0 4) v

/-- Read a port operation: bit 6 of the word is the direction, bits 5:0 the address (R90). -/
def decodePort : List Byte → Except DecodeError (Instr × List Byte)
  | [] => .error .truncated
  | b :: rest =>
    if b.getLsbD 7 then .error (.notAPortWord b)
    else if b.getLsbD 6 then
      match rest with
      | [] => .error .truncated
      | v :: rest' => .ok (writeOperation (b.extractLsb' 0 6) v, rest')
    else .ok (readOperation (b.extractLsb' 0 6), rest)

/-- The trigger of a class 6 word, by its number `t = operand` (R96). -/
def triggerOf (t : BitVec 5) : Option Instr :=
  match t.toNat with
  | 0 => some .tRaster
  | 1 => some .tBadline
  | 2 => some .tVborder
  | 3 => some .tClearline
  | 4 => some .tVcload
  | 5 => some .tSpradv
  | 6 => some .tYexp
  | 7 => some .tDmachk
  | 8 => some .tDraw
  | 9 => some .tSprdisp
  | 10 => some .tRcadv
  | 12 => some (.tHleft false)
  | 13 => some (.tHleft true)
  | 14 => some (.tHright false)
  | 15 => some (.tHright true)
  | 16 => some .tBsample0
  | 17 => some .tBsample1
  | 18 => some .tBsample2
  | 19 => some .tBsample3
  | 20 => some .tBsample4
  | _ => none

/-- An operation whose operand field must be 0 (R95, R100). -/
def withoutOperand (operand : BitVec 5) (i : Instr) : Option Instr :=
  if operand = 0 then some i else none

/-- The sprite data read `i = operand[4:2]`, `j = operand[1:0]`; `j = 3` is reserved (R95, R100). -/
def spriteDataOf (operand : BitVec 5) : Option Instr :=
  match (operand.extractLsb' 0 2).toNat with
  | 0 => some (.sdata0 (operand.extractLsb' 2 3).toFin)
  | 1 => some (.sdata1 (operand.extractLsb' 2 3).toFin)
  | 2 => some (.sdata2 (operand.extractLsb' 2 3).toFin)
  | _ => none

/-- The micro-operation of a class and an operand, unless R100 reserves the word (R95). -/
def microOpOf (cls : BitVec 3) (operand : BitVec 5) : Option Instr :=
  match cls.toNat with
  | 0 => withoutOperand operand .idle
  | 1 => withoutOperand operand .refresh
  | 2 => if operand.extractLsb' 3 2 = 0 then some (.sptr (operand.extractLsb' 0 3).toFin) else none
  | 3 => spriteDataOf operand
  | 4 => withoutOperand operand .matrix
  | 5 => withoutOperand operand .gfx
  | 6 => triggerOf operand
  | _ => none

/-- Read a micro-operation word: the class is bits 7:5, the operand bits 4:0 (R95). -/
def decodeMicroOp (b : Byte) : Except DecodeError Instr :=
  match microOpOf (b.extractLsb' 5 3) (b.extractLsb' 0 5) with
  | some i => .ok i
  | none => .error (.reservedMicroOp b)

/-- Read one instruction of a format from the front of some bytes. -/
def decode (f : Format) (bytes : List Byte) : Except DecodeError (Instr × List Byte) :=
  match f, bytes with
  | .port, bs => decodePort bs
  | .microOp, [] => .error .truncated
  | .microOp, b :: rest =>
    match decodeMicroOp b with
    | .ok i => .ok (i, rest)
    | .error e => .error e

/-- The bytes of an instruction number as opcode_table.json counts its bits: byte `k` is bits `8k+7 .. 8k` (the
first byte the least significant), the bits from `nbits` on being 0. The longest instruction has two bytes. -/
def tableBytes (nbits w : Nat) : List Byte :=
  [BitVec.ofNat 8 (w % 2 ^ nbits), BitVec.ofNat 8 (w % 2 ^ nbits / 256)]

/-- The format a table word is read in. The table writes its port rows in 7 bits and its micro-operation rows in 8,
and both are one byte when rounded up; bit 7 is 0 in every port word, so a byte with bit 7 clear is read as a port
word (assumption 8: the six micro-operation rows below 0x80 cannot be told from port words by a bare number). -/
def tableFormat : List Byte → Format
  | b :: _ => if b.getLsbD 7 then .microOp else .port
  | [] => .port

/-- The instruction the decoder reads from a row's number (see `tableBytes`, `tableFormat`). -/
def decodeTableWord (nbits w : Nat) : Option Instr :=
  match decode (tableFormat (tableBytes nbits w)) (tableBytes nbits w) with
  | .ok (i, _) => some i
  | .error _ => none

/-- The format of an instruction's encoding. -/
def Instr.format (i : Instr) : Format :=
  match i.kind with
  | .port => .port
  | .busOperation => .microOp
  | .trigger => .microOp

/-- The bytes of a port read: the word `0 : a` (R90). -/
def readBytes (a : BitVec 6) : List Byte := [(0#2 ++ a : BitVec 8)]

/-- The bytes of a port write: the word `1 : a` and the data byte (R90). -/
def writeBytes (a : BitVec 6) (v : Byte) : List Byte := [(1#2 ++ a : BitVec 8), v]

/-- The byte of a micro-operation: `class : operand` (R95). -/
def microOpBytes (cls : BitVec 3) (operand : BitVec 5) : List Byte := [(cls ++ operand : BitVec 8)]

/-- The bytes that stand for an instruction (R91, R95, R96). -/
def encode : Instr → List Byte
  | .rd00 => readBytes 0x00
  | .wr00 v => writeBytes 0x00 v
  | .rd01 => readBytes 0x01
  | .wr01 v => writeBytes 0x01 v
  | .rd02 => readBytes 0x02
  | .wr02 v => writeBytes 0x02 v
  | .rd03 => readBytes 0x03
  | .wr03 v => writeBytes 0x03 v
  | .rd04 => readBytes 0x04
  | .wr04 v => writeBytes 0x04 v
  | .rd05 => readBytes 0x05
  | .wr05 v => writeBytes 0x05 v
  | .rd06 => readBytes 0x06
  | .wr06 v => writeBytes 0x06 v
  | .rd07 => readBytes 0x07
  | .wr07 v => writeBytes 0x07 v
  | .rd08 => readBytes 0x08
  | .wr08 v => writeBytes 0x08 v
  | .rd09 => readBytes 0x09
  | .wr09 v => writeBytes 0x09 v
  | .rd0A => readBytes 0x0A
  | .wr0A v => writeBytes 0x0A v
  | .rd0B => readBytes 0x0B
  | .wr0B v => writeBytes 0x0B v
  | .rd0C => readBytes 0x0C
  | .wr0C v => writeBytes 0x0C v
  | .rd0D => readBytes 0x0D
  | .wr0D v => writeBytes 0x0D v
  | .rd0E => readBytes 0x0E
  | .wr0E v => writeBytes 0x0E v
  | .rd0F => readBytes 0x0F
  | .wr0F v => writeBytes 0x0F v
  | .rd10 => readBytes 0x10
  | .wr10 v => writeBytes 0x10 v
  | .rd11 => readBytes 0x11
  | .wr11 v => writeBytes 0x11 v
  | .rd12 => readBytes 0x12
  | .wr12 v => writeBytes 0x12 v
  | .rd13 => readBytes 0x13
  | .wr13 v => writeBytes 0x13 v
  | .rd14 => readBytes 0x14
  | .wr14 v => writeBytes 0x14 v
  | .rd15 => readBytes 0x15
  | .wr15 v => writeBytes 0x15 v
  | .rd16 => readBytes 0x16
  | .wr16 v => writeBytes 0x16 v
  | .rd17 => readBytes 0x17
  | .wr17 v => writeBytes 0x17 v
  | .rd18 => readBytes 0x18
  | .wr18 v => writeBytes 0x18 v
  | .rd19 => readBytes 0x19
  | .wr19 v => writeBytes 0x19 v
  | .rd1A => readBytes 0x1A
  | .wr1A v => writeBytes 0x1A v
  | .rd1B => readBytes 0x1B
  | .wr1B v => writeBytes 0x1B v
  | .rd1C => readBytes 0x1C
  | .wr1C v => writeBytes 0x1C v
  | .rd1D => readBytes 0x1D
  | .wr1D v => writeBytes 0x1D v
  | .rd1E => readBytes 0x1E
  | .wr1E v => writeBytes 0x1E v
  | .rd1F => readBytes 0x1F
  | .wr1F v => writeBytes 0x1F v
  | .rd20 => readBytes 0x20
  | .wr20 v => writeBytes 0x20 v
  | .rd21 => readBytes 0x21
  | .wr21 v => writeBytes 0x21 v
  | .rd22 => readBytes 0x22
  | .wr22 v => writeBytes 0x22 v
  | .rd23 => readBytes 0x23
  | .wr23 v => writeBytes 0x23 v
  | .rd24 => readBytes 0x24
  | .wr24 v => writeBytes 0x24 v
  | .rd25 => readBytes 0x25
  | .wr25 v => writeBytes 0x25 v
  | .rd26 => readBytes 0x26
  | .wr26 v => writeBytes 0x26 v
  | .rd27 => readBytes 0x27
  | .wr27 v => writeBytes 0x27 v
  | .rd28 => readBytes 0x28
  | .wr28 v => writeBytes 0x28 v
  | .rd29 => readBytes 0x29
  | .wr29 v => writeBytes 0x29 v
  | .rd2A => readBytes 0x2A
  | .wr2A v => writeBytes 0x2A v
  | .rd2B => readBytes 0x2B
  | .wr2B v => writeBytes 0x2B v
  | .rd2C => readBytes 0x2C
  | .wr2C v => writeBytes 0x2C v
  | .rd2D => readBytes 0x2D
  | .wr2D v => writeBytes 0x2D v
  | .rd2E => readBytes 0x2E
  | .wr2E v => writeBytes 0x2E v
  | .rd2F => readBytes 0x2F
  | .wr2F v => writeBytes 0x2F v
  | .rdUnused low => readBytes (0b11#2 ++ low : BitVec 6)
  | .wrUnused low v => writeBytes (0b11#2 ++ low : BitVec 6) v
  | .idle => microOpBytes 0 0
  | .refresh => microOpBytes 1 0
  | .sptr i => microOpBytes 2 (0#2 ++ BitVec.ofFin (w := 3) i : BitVec 5)
  | .sdata0 i => microOpBytes 3 (BitVec.ofFin (w := 3) i ++ 0#2 : BitVec 5)
  | .sdata1 i => microOpBytes 3 (BitVec.ofFin (w := 3) i ++ 1#2 : BitVec 5)
  | .sdata2 i => microOpBytes 3 (BitVec.ofFin (w := 3) i ++ 2#2 : BitVec 5)
  | .matrix => microOpBytes 4 0
  | .gfx => microOpBytes 5 0
  | .tRaster => microOpBytes 6 0
  | .tBadline => microOpBytes 6 1
  | .tVborder => microOpBytes 6 2
  | .tClearline => microOpBytes 6 3
  | .tVcload => microOpBytes 6 4
  | .tSpradv => microOpBytes 6 5
  | .tYexp => microOpBytes 6 6
  | .tDmachk => microOpBytes 6 7
  | .tDraw => microOpBytes 6 8
  | .tSprdisp => microOpBytes 6 9
  | .tRcadv => microOpBytes 6 10
  | .tHleft cs => microOpBytes 6 (0b0110#4 ++ BitVec.ofBool cs : BitVec 5)
  | .tHright cs => microOpBytes 6 (0b0111#4 ++ BitVec.ofBool cs : BitVec 5)
  | .tBsample0 => microOpBytes 6 16
  | .tBsample1 => microOpBytes 6 17
  | .tBsample2 => microOpBytes 6 18
  | .tBsample3 => microOpBytes 6 19
  | .tBsample4 => microOpBytes 6 20

end Sys2Proof
end

