-- ==== Sys2Proof/Machine/CycleTable.lean ====
section
/-! DEFINITION. The cycle tables of the two variants as data (spec/40_cycle_machine.md R122, R124, R125): for each
cycle of a line, the micro-operation words of its descriptor. -/

namespace Sys2Proof.Machine

/-- A cycle descriptor as words: the `pre` triggers, the bus operations, the `post` triggers (R94, R95). -/
structure CycleWords where
  pre : List Byte
  ops : List Byte
  post : List Byte
deriving DecidableEq, Repr

/-- Cycles 1 to 18, the same in both variants (R124). -/
def cycles1To18 : List CycleWords :=
  [⟨[0xC0, 0xC1, 0xC2], [0x43, 0x6C], []⟩,
   ⟨[], [0x6D, 0x6E], []⟩,
   ⟨[], [0x44, 0x70], []⟩,
   ⟨[], [0x71, 0x72], []⟩,
   ⟨[], [0x45, 0x74], []⟩,
   ⟨[], [0x75, 0x76], []⟩,
   ⟨[], [0x46, 0x78], []⟩,
   ⟨[], [0x79, 0x7A], []⟩,
   ⟨[], [0x47, 0x7C], []⟩,
   ⟨[], [0x7D, 0x7E], []⟩,
   ⟨[], [0x20], []⟩,
   ⟨[], [0x20], []⟩,
   ⟨[], [0x20], [0xC3, 0xD0]⟩,
   ⟨[0xC4], [0x20], []⟩,
   ⟨[], [0x20, 0x80], []⟩,
   ⟨[0xC5], [0xA0, 0x80], []⟩,
   ⟨[0xCD], [0xA0, 0x80], [0xD1]⟩,
   ⟨[0xCC], [0xA0, 0x80], [0xD2]⟩]

/-- Cycles 19 to 54, each one GFX and one MATRIX (R124). -/
def cycles19To54 : List CycleWords := List.replicate 36 ⟨[], [0xA0, 0x80], []⟩

/-- Cycles 55 to 57, the same in both variants (R124). -/
def cycles55To57 : List CycleWords :=
  [⟨[0xC6, 0xC7], [0xA0], []⟩,
   ⟨[0xCE, 0xC7], [0x00], [0xD3]⟩,
   ⟨[0xCF], [0x00], [0xD4]⟩]

/-- Cycles 58 to 63 of V63 (R124). -/
def cycles58To63 : List CycleWords :=
  [⟨[0xC8, 0xC9, 0xCA], [0x40, 0x60], []⟩,
   ⟨[], [0x61, 0x62], []⟩,
   ⟨[], [0x41, 0x64], []⟩,
   ⟨[], [0x65, 0x66], []⟩,
   ⟨[], [0x42, 0x68], []⟩,
   ⟨[], [0x69, 0x6A], []⟩]

/-- Cycles 58 to 65 of V65 (R125). -/
def cycles58To65 : List CycleWords :=
  [⟨[], [0x00], []⟩,
   ⟨[], [0x00], []⟩,
   ⟨[0xC8, 0xC9, 0xCA], [0x40, 0x60], []⟩,
   ⟨[], [0x61, 0x62], []⟩,
   ⟨[], [0x41, 0x64], []⟩,
   ⟨[], [0x65, 0x66], []⟩,
   ⟨[], [0x42, 0x68], []⟩,
   ⟨[], [0x69, 0x6A], []⟩]

/-- The cycle table of a variant, its first entry cycle 1 (R122, R124, R125). -/
def cycleTable : Variant → List CycleWords
  | .v63 => cycles1To18 ++ cycles19To54 ++ cycles55To57 ++ cycles58To63
  | .v65 => cycles1To18 ++ cycles19To54 ++ cycles55To57 ++ cycles58To65

/-- The descriptor of a cycle, found by indexing with the 1-based cycle number; none off the table (R122). -/
def cycleWords (v : Variant) : Nat → Option CycleWords
  | 0 => none
  | c + 1 => (cycleTable v)[c]?

/-- The triggers a list of words stands for, and the bus operations likewise; a word R100 reserves stands for
none. -/
def decodeWords (ws : List Byte) : List Instr :=
  ws.filterMap fun w =>
    match decodeMicroOp w with
    | .ok i => some i
    | .error _ => none

/-- The descriptor of a cycle as instructions. -/
def CycleWords.descriptor (d : CycleWords) : Descriptor :=
  ⟨decodeWords d.pre, decodeWords d.ops, decodeWords d.post⟩

end Sys2Proof.Machine
end

