-- ==== Sys2Proof/Machine/Interrupts.lean ====
section
/-! DEFINITION. The raster interrupt T_RASTER and the light-pen sample, item 1 of every step
(spec/60_exceptions.md R345, R352). -/

namespace Sys2Proof.Machine

/-- `T_RASTER`: the 9-bit compare of the raster line, R345. -/
def execTRaster (s : State) : Result :=
  .next (if s.cursor.scanline = s.rasterCompare then s.raiseIrq flagRaster else s)

/-- The trigger of the light pen: X and Y are asked for, X first, latched, and the flag is set (R352). -/
def State.lightPenTrigger (s : State) : State :=
  let s1 := (s.emit (.lpX s.env.penX)).setReg 0x13 (BitVec.ofInt 8 (s.env.penX / 2))
  let s2 := (s1.emit (.lpY s.env.penY)).setReg 0x14 (BitVec.ofInt 8 s.env.penY)
  let s3 := s2.raiseIrq flagLightPen
  { s3 with pen := { s3.pen with lpTriggeredThisFrame := true } }

/-- LightPenSample: a rising edge of the button, once per frame, triggers (R352). -/
def State.lightPenSample (s : State) : State :=
  let b := s.env.penButton
  let s1 := s.emit (.lpButton b)
  let s2 := if b && !s.pen.lpPrev && !s.pen.lpTriggeredThisFrame then s1.lightPenTrigger else s1
  { s2 with pen := { s2.pen with lpPrev := b } }

end Sys2Proof.Machine
end

