-- ==== Sys2Proof/Machine/Cycle.lean ====
section
/-! DEFINITION. The cycle state machine: the items of one step in their order, and the cursor advance with its line
and frame wrap (spec/40_cycle_machine.md R121 to R127). -/

namespace Sys2Proof.Machine

/-- The items of a step after the light-pen sample, in the order of R121: the `pre` triggers, the arbitration, the
bus operations, the `post` triggers, the cursor advance. -/
def CycleWords.items (d : CycleWords) : List Work :=
  d.pre.map Work.word ++ [Work.arbitrate] ++ d.ops.map Work.word ++ d.post.map Work.word ++ [Work.advance]

/-- FrameWrap: the per-frame latches are rearmed and the video counters reset (R127). -/
def State.frameWrap (s : State) : State :=
  { s with
    display := { s.display with videoCounter := 0, videoCounterBase := 0, badLinesEnabledThisFrame := false }
    refreshCounter := 0xFF
    pen := { s.pen with lpTriggeredThisFrame := false } }

/-- The scan line after the last cycle of a line, with the frame wrap (R123). -/
def State.advanceLine (s : State) : State :=
  if s.cursor.scanline.toNat + 1 = s.params.totalLines then
    State.frameWrap { s with cursor := { s.cursor with scanline := 0 } }
  else { s with cursor := { s.cursor with scanline := s.cursor.scanline + 1 } }

/-- AdvanceCursor (R123). -/
def State.advanceCursor (s : State) : State :=
  let s1 := { s with cursor := { s.cursor with globalCycleCounter := s.cursor.globalCycleCounter + 1 } }
  if s.cursor.cycleInLine = s.params.cyclesPerLine then
    State.advanceLine { s1 with cursor := { s1.cursor with cycleInLine := 1 } }
  else { s1 with cursor := { s1.cursor with cycleInLine := s1.cursor.cycleInLine + 1 } }

/-- Begin a step: the light pen is sampled and the descriptor of the cycle is looked up; its items are then to run
(R121). -/
def State.beginCycle (s : State) : Result :=
  match cycleWords s.params.variant s.cursor.cycleInLine with
  | none => .fault (.cursorOffTable s.cursor.cycleInLine)
  | some d => .next { s.lightPenSample with agenda := d.items }

end Sys2Proof.Machine
end

