-- ==== Sys2Proof/Machine/Border.lean ====
section
/-! DEFINITION. The border and display-window generator: T_VBORDER, T_HLEFT, T_HRIGHT, T_BSAMPLE and `BorderAt`
(spec/45_border.md R250 to R256). -/

namespace Sys2Proof.Machine

/-- The vertical flip-flop after T_VBORDER: set at the stop line, cleared at the start line with `DEN = 1`
(R251). -/
def State.verticalAfterCompare (s : State) : Bool :=
  if s.cursor.scanline.toNat = vStop s.rsel then true
  else if s.cursor.scanline.toNat = vStart s.rsel ∧ s.den = true then false
  else s.border.verticalBorderOn

/-- `T_VBORDER`, R251. -/
def execTVborder (s : State) : Result :=
  .next { s with border := { s.border with verticalBorderOn := s.verticalAfterCompare } }

/-- `T_HLEFT cs`, R252. -/
def execTHleft (cs : Bool) (s : State) : Result :=
  .next { s with border := { s.border with
    horizontalBorderOn := if s.csel = cs ∧ s.den = true then false else s.border.horizontalBorderOn } }

/-- `T_HRIGHT cs`, R253. -/
def execTHright (cs : Bool) (s : State) : Result :=
  .next { s with border := { s.border with
    horizontalBorderOn := if s.csel = cs then true else s.border.horizontalBorderOn } }

/-- Sample `k` takes the value of both flip-flops (R254). -/
def State.borderSample (s : State) (k : Fin 5) : State :=
  { s with border := { s.border with
    sampleV := s.border.sampleV.set k s.border.verticalBorderOn
    sampleH := s.border.sampleH.set k s.border.horizontalBorderOn } }

/-- `T_BSAMPLE 0`, R254. -/
def execTBsample0 (s : State) : Result := .next (s.borderSample 0)

/-- `T_BSAMPLE 1`, R254. -/
def execTBsample1 (s : State) : Result := .next (s.borderSample 1)

/-- `T_BSAMPLE 2`, R254. -/
def execTBsample2 (s : State) : Result := .next (s.borderSample 2)

/-- `T_BSAMPLE 3`, R254. -/
def execTBsample3 (s : State) : Result := .next (s.borderSample 3)

/-- `T_BSAMPLE 4`, R254. -/
def execTBsample4 (s : State) : Result := .next (s.borderSample 4)

/-- `BorderAt(x)`: the sample that governs the column has either flag set (R256). -/
def Border.shownAt (b : Border) (x : Nat) : Bool := b.sampleV[spanOf x] || b.sampleH[spanOf x]

end Sys2Proof.Machine
end

