-- ==== Sys2Proof/Machine/BusOps.lean ====
section
/-! DEFINITION. The bus operations that belong to no other family: IDLE and REFRESH
(spec/40_cycle_machine.md R130, R131). -/

namespace Sys2Proof.Machine

/-- An idle read; the answer is discarded (R130, R78). -/
def State.idleRead (s : State) : State := s.afterMemRead idleAddress

/-- `IDLE`, R130. -/
def execIdle (s : State) : Result := .next s.idleRead

/-- `REFRESH`: the read, then the counter goes down by one and wraps, R131. -/
def execRefresh (s : State) : Result :=
  let s1 := s.afterMemRead s.refreshAddress
  .next { s1 with refreshCounter := s1.refreshCounter - 1 }

end Sys2Proof.Machine
end

