-- ==== Sys2Proof/Machine/Display.lean ====
section
/-! DEFINITION. The bad-line and display state machine: T_BADLINE, T_VCLOAD, T_RCADV and MATRIX
(spec/42_badline_display.md R176 to R179). -/

namespace Sys2Proof.Machine

/-- The raster line is inside the DMA window (R176). -/
def State.inDmaWindow (s : State) : Bool :=
  decide (dmaFirst ≤ s.cursor.scanline.toNat) && decide (s.cursor.scanline.toNat ≤ dmaLast)

/-- `badLinesEnabledThisFrame` after the observation of T_BADLINE (R176). -/
def State.badLinesLatched (s : State) : Bool :=
  (s.inDmaWindow && s.den) || s.display.badLinesEnabledThisFrame

/-- The bad-line condition, with the latch already updated (R176). -/
def State.badLineCondition (s : State) : Bool :=
  s.inDmaWindow && (s.cursor.scanline.extractLsb' 0 3 == s.yscroll) && s.badLinesLatched

/-- `T_BADLINE`, R176. -/
def execTBadline (s : State) : Result :=
  .next { s with display := { s.display with
    badLinesEnabledThisFrame := s.badLinesLatched
    isBadLine := s.badLineCondition
    displayActive := s.badLineCondition || s.display.displayActive } }

/-- `T_VCLOAD`, R177. -/
def execTVcload (s : State) : Result :=
  .next { s with display := { s.display with
    videoCounter := s.display.videoCounterBase
    rowCounter := if s.display.isBadLine then 0 else s.display.rowCounter } }

/-- The first statement of T_RCADV: the end of a character row (R178). -/
def Display.endRow (d : Display) : Display :=
  if d.rowCounter = 7 then { d with videoCounterBase := d.videoCounter, displayActive := false } else d

/-- The second statement of T_RCADV: a bad line keeps the display active (R178). -/
def Display.keepActive (d : Display) : Display :=
  if d.isBadLine then { d with displayActive := true } else d

/-- The third statement of T_RCADV: the row counter counts in display state (R178). -/
def Display.countRow (d : Display) : Display :=
  if d.displayActive then { d with rowCounter := d.rowCounter + 1 } else d

/-- `T_RCADV`, R178. -/
def execTRcadv (s : State) : Result :=
  .next { s with display := s.display.endRow.keepActive.countRow }

/-- The two reads of MATRIX and the stores of their answers into column `k`: video memory first, colour second
(R79, R179). -/
def State.fetchColumn (s : State) (k : Fin 40) : State :=
  let s1 := s.afterMemRead s.matrixAddress
  let s2 := s1.afterColRead s1.matrixColourAddress
  { s2 with lines :=
    { matrixLine := s2.lines.matrixLine.set k (s.memAnswer s.matrixAddress)
      colorLine := s2.lines.colorLine.set k (s1.colAnswer s1.matrixColourAddress) } }

/-- The column of MATRIX in a cycle, `cycleInLine - 15` (R179). -/
def matrixColumn (cycle : Nat) : Option (Fin 40) :=
  if h : 15 ≤ cycle ∧ cycle ≤ 54 then some ⟨cycle - 15, by omega⟩ else none

/-- `MATRIX`: on a bad line the two reads of its column, on any other line no access at all, R179. -/
def execMatrix (s : State) : Result :=
  match matrixColumn s.cursor.cycleInLine with
  | none => .refused (.noColumn s.cursor.cycleInLine)
  | some k => .next (if s.display.isBadLine then s.fetchColumn k else s)

end Sys2Proof.Machine
end

