-- ==== Sys2Proof/Machine/Draw.lean ====
section
/-! DEFINITION. Composite and draw: T_DRAW with the sprite row decode, priority, clipping, the collision buffers,
the collision latch and the framebuffer row (spec/44_sprites.md R230 to R237). The loops of R230 over sprites and
pixels are written per column: what each step leaves in element `x` of its buffer. -/

namespace Sys2Proof.Machine

/-- A sprite's 24-bit row, first-fetched byte in the high bits (R232, R64). -/
def SpriteUnit.row (u : SpriteUnit) : BitVec 24 := u.fetchedData[0] ++ u.fetchedData[1] ++ u.fetchedData[2]

/-- The colour of a multicolour pair code: transparent, `MM0`, `MxC`, `MM1` (R232). -/
def State.pairColour (s : State) (i : Fin 8) : BitVec 2 → Option Nibble
  | 0 => none
  | 1 => some (s.colourOf 0x25)
  | 2 => some (s.spriteColour i)
  | _ => some (s.colourOf 0x26)

/-- `SourcePixel(i, p)` for `p` in 0..23: a colour, or none when transparent (R232). -/
def State.sourcePixel (s : State) (i : Fin 8) (p : Nat) : Option Nibble :=
  let data := s.sprites[i].row
  if s.spriteMulticolour i then s.pairColour i (data.extractLsb' (22 - 2 * (p / 2)) 2)
  else if data.getLsbD (23 - p) then some (s.spriteColour i) else none

/-- `xf`, 2 for an X-expanded sprite (R233). -/
def State.xFactor (s : State) (i : Fin 8) : Nat := if s.spriteXExpanded i then 2 else 1

/-- What a sprite draws at a column: a colour, or none where it is not displayed, does not reach, or is
transparent (R231 to R233). -/
def State.spriteAt (s : State) (x : Nat) (i : Fin 8) : Option Nibble :=
  if s.sprites[i].displayEnabled ∧ (s.spriteX i).toNat ≤ x ∧ x < (s.spriteX i).toNat + 24 * s.xFactor i then
    s.sourcePixel i ((x - (s.spriteX i).toNat) / s.xFactor i)
  else none

/-- `spriteCollision[x]` after step 2: bit `i` for each sprite that draws there (R230, R17). -/
def State.spriteMaskAt (s : State) (x : Nat) : Byte :=
  spriteNumbers.foldl (fun m i => if (s.spriteAt x i).isSome then m ||| (1#8 <<< i.val) else m) 0

/-- `gfxColor[x]` (R18). -/
def State.gfxColorAt (s : State) (x : Nat) : Nibble := s.gfxLine.gfxColor.getD x 0

/-- `gfxFg[x]` (R18). -/
def State.gfxFgAt (s : State) (x : Nat) : Bool := s.gfxLine.gfxFg.getD x false

/-- `foregroundCollision[x]` after step 2 (R230, R17). -/
def State.foregroundMaskAt (s : State) (x : Nat) : Byte := if s.gfxFgAt x then s.spriteMaskAt x else 0

/-- `winner[x]`: the sprite with the lowest number that draws there, and its colour (R230, R234). -/
def State.winnerAt (s : State) (x : Nat) : Option (Fin 8 × Nibble) :=
  spriteNumbers.findSome? fun i => (s.spriteAt x i).map fun c => (i, c)

/-- The pixel before the border: the winner's colour unless it is behind a foreground pixel (R230, R234). -/
def State.compositeAt (s : State) (x : Nat) : Nibble :=
  match s.winnerAt x with
  | some (i, c) => if s.spriteBehind i && s.gfxFgAt x then s.gfxColorAt x else c
  | none => s.gfxColorAt x

/-- `out[x]`: the composite pixel, replaced by the border colour where the border is on (R230, R256). -/
def State.outAt (s : State) (x : Nat) : Nibble :=
  if s.border.shownAt x then s.colourOf 0x20 else s.compositeAt x

/-- The columns of a row. -/
def columns (p : Params) : List Nat := List.range (rowPixels p)

/-- The collision buffers T_DRAW leaves: cleared, then accumulated over the displayed sprites (R230). -/
def State.collisionBuffers (s : State) : CollisionBuffers where
  spriteCollision := (columns s.params).map s.spriteMaskAt
  foregroundCollision := (columns s.params).map s.foregroundMaskAt

/-- One half of CollisionLatch: the flag is raised when the register goes from 0 to non-zero, and the bits are
added (R236). -/
def State.latchCollision (s : State) (a : Nat) (flag : BitVec 4) (mask : Byte) : State :=
  if mask = 0 then s
  else
    let s1 := if s.reg a = 0 then s.raiseIrq flag else s
    s1.setReg a (s.reg a ||| mask)

/-- `CollisionLatch(ss, sb)` (R236). -/
def State.collisionLatch (s : State) (ss sb : Byte) : State :=
  (s.latchCollision 0x1E flagSpriteSprite ss).latchCollision 0x1F flagSpriteBackground sb

/-- A row of colour 0, what a framebuffer row not yet drawn reads as (R50). -/
def blankRow (p : Params) : List Nibble := List.replicate (rowPixels p) 0

/-- `framebuffer[y] <- row` (R237). -/
def State.writeRow (s : State) (y : Nat) (row : List Nibble) : State :=
  { s with framebuffer := Memory.write (some (blankRow s.params)) s.framebuffer y row }

/-- `framebuffer[y][x]` (R33). -/
def State.framePixel (s : State) (y x : Nat) : Nibble :=
  ((Memory.find s.framebuffer y).getD (blankRow s.params)).getD x 0

/-- The state after T_DRAW: the buffers, the collision latch, then the whole row of this scan line (R230). -/
def State.drawLine (s : State) : State :=
  let buffers := s.collisionBuffers
  let s1 := { s with collision := buffers }
  let s2 := s1.collisionLatch (spriteSpriteMask buffers.spriteCollision)
    (spriteBackgroundMask buffers.foregroundCollision)
  s2.writeRow s.cursor.scanline.toNat ((columns s.params).map s.outAt)

/-- `T_DRAW`, R230. -/
def execTDraw (s : State) : Result := .next s.drawLine

end Sys2Proof.Machine
end

