-- ==== Sys2Proof/Machine/Graphics.lean ====
section
/-! DEFINITION. The character and bitmap graphics pipeline: GFX with its eight decodes, and T_CLEARLINE
(spec/43_graphics.md R190 to R205). -/

namespace Sys2Proof.Machine

/-- One decoded pixel: its colour and its foreground bit. -/
structure Pixel where
  color : Nibble
  fg : Bool
deriving DecidableEq, Repr

/-- Pixel `n` of the helper decode `Std`: one bit per pixel, bit 7 the leftmost (R192). -/
def stdPixel (g : Byte) (c1 c0 : Nibble) (n : Nat) : Pixel :=
  if g.getLsbD (7 - n) then ⟨c1, true⟩ else ⟨c0, false⟩

/-- The pair code of pixel `n` in a multicolour byte: pair 0 is bits 7:6 and covers pixels 0 and 1 (R192). -/
def pairCode (g : Byte) (n : Nat) : BitVec 2 := g.extractLsb' (6 - 2 * (n / 2)) 2

/-- Pixel `n` of the helper decode `Multi`, the colours given by pair code; codes 2 and 3 are foreground (R192). -/
def multiPixel (g : Byte) (c : BitVec 2 → Nibble) (n : Nat) : Pixel :=
  ⟨c (pairCode g n), decide (2 ≤ (pairCode g n).toNat)⟩

/-- The four colours of a multicolour decode in the order of their pair codes (R192). -/
def palette (c0 c1 c2 c3 : Nibble) : BitVec 2 → Nibble
  | 0 => c0
  | 1 => c1
  | 2 => c2
  | _ => c3

/-- Bits 2:0 of a colour nibble as a colour 0 to 7 (R194). -/
def lowColour (cc : Nibble) : Nibble := cc &&& 0x7

/-- Pixel `n` of the decode of mode 0, standard character (R193). -/
def pixelMode0 (s : State) (g : Byte) (cc : Nibble) (n : Nat) : Pixel := stdPixel g cc (s.background 0) n

/-- Pixel `n` of the decode of mode 1, multicolour character: bit 3 of the colour nibble chooses per cell (R194). -/
def pixelMode1 (s : State) (g : Byte) (cc : Nibble) (n : Nat) : Pixel :=
  if cc.getLsbD 3 then
    multiPixel g (palette (s.background 0) (s.background 1) (s.background 2) (lowColour cc)) n
  else stdPixel g (lowColour cc) (s.background 0) n

/-- Pixel `n` of the decode of mode 2, standard bitmap (R195). -/
def pixelMode2 (g cd : Byte) (n : Nat) : Pixel := stdPixel g (cd.extractLsb' 4 4) (cd.extractLsb' 0 4) n

/-- Pixel `n` of the decode of mode 3, multicolour bitmap (R196). -/
def pixelMode3 (s : State) (g cd : Byte) (cc : Nibble) (n : Nat) : Pixel :=
  multiPixel g (palette (s.background 0) (cd.extractLsb' 4 4) (cd.extractLsb' 0 4) cc) n

/-- Pixel `n` of the decode of mode 4, extended-colour character (R199). -/
def pixelMode4 (s : State) (g cd : Byte) (cc : Nibble) (n : Nat) : Pixel :=
  stdPixel g cc (s.background (cd.extractLsb' 6 2)) n

/-- Pixel `n` of the decode of the blank modes 5, 6 and 7: black, no foreground (R200). -/
def pixelBlank : Pixel := ⟨0, false⟩

/-- Pixel `n` of `Decode(mode, g, cd, cc)` (R191). -/
def State.decodePixel (s : State) (g cd : Byte) (cc : Nibble) (n : Nat) : Pixel :=
  match s.mode.toNat with
  | 0 => pixelMode0 s g cc n
  | 1 => pixelMode1 s g cc n
  | 2 => pixelMode2 g cd n
  | 3 => pixelMode3 s g cd cc n
  | 4 => pixelMode4 s g cd cc n
  | _ => pixelBlank

/-- The eight pixels of a graphics cycle, leftmost first. -/
def State.decodeByte (s : State) (g cd : Byte) (cc : Nibble) : List Pixel :=
  (List.range 8).map (s.decodePixel g cd cc)

/-- Write successive elements from a position on; what lies past the end of the row is dropped (R190, R203). -/
def writeFrom {α : Type} : List α → Nat → List α → List α
  | [], _, row => row
  | v :: vs, x, row => writeFrom vs (x + 1) (row.set x v)

/-- Write eight decoded pixels into the line buffers from column `x0` on (R190). -/
def GraphicsLine.write (l : GraphicsLine) (x0 : Nat) (px : List Pixel) : GraphicsLine where
  gfxColor := writeFrom (px.map Pixel.color) x0 l.gfxColor
  gfxFg := writeFrom (px.map Pixel.fg) x0 l.gfxFg

/-- The column of the leftmost pixel of graphics column `k`: `GFX_X0 + 8*k + XSCROLL` (R190, R203). -/
def State.columnX (s : State) (k : Fin 40) : Nat := gfxX0 + 8 * k.val + s.xscroll.toNat

/-- The matrix byte the decode uses: that of the column in display state, 0 in idle state (R190). -/
def State.gfxMatrixByte (s : State) (k : Fin 40) : Byte := if s.display.displayActive then s.lines.matrixLine[k] else 0

/-- The colour nibble the decode uses: that of the column in display state, 0 in idle state (R190). -/
def State.gfxColourNibble (s : State) (k : Fin 40) : Nibble :=
  if s.display.displayActive then s.lines.colorLine[k] else 0

/-- The address GFX reads for a column (R71 to R74). -/
def State.gfxAddress (s : State) (k : Fin 40) : MemAddr :=
  if s.display.displayActive then s.displayAddress s.lines.matrixLine[k] else s.idleGfxAddress

/-- `videoCounter` after a GFX: it advances in display state only (R190). -/
def State.videoCounterAfterGfx (s : State) : BitVec 10 :=
  if s.display.displayActive then s.display.videoCounter + 1 else s.display.videoCounter

/-- The column of GFX in a cycle, `cycleInLine - 16` (R190). -/
def gfxColumn (cycle : Nat) : Option (Fin 40) :=
  if h : 16 ≤ cycle ∧ cycle ≤ 55 then some ⟨cycle - 16, by omega⟩ else none

/-- GFX of column `k`: one read, then the decode and the eight pixels (R190). -/
def State.fetchGraphics (s : State) (k : Fin 40) : State :=
  let g := s.memAnswer (s.gfxAddress k)
  let s1 := s.afterMemRead (s.gfxAddress k)
  { s1 with
    display := { s1.display with videoCounter := s.videoCounterAfterGfx }
    gfxLine := s1.gfxLine.write (s.columnX k) (s.decodeByte g (s.gfxMatrixByte k) (s.gfxColourNibble k)) }

/-- `GFX`, R190. -/
def execGfx (s : State) : Result :=
  match gfxColumn s.cursor.cycleInLine with
  | none => .refused (.noColumn s.cursor.cycleInLine)
  | some k => .next (s.fetchGraphics k)

/-- `T_CLEARLINE`: the whole row becomes background colour 0 without foreground, R205. -/
def execTClearline (s : State) : Result :=
  .next { s with gfxLine :=
    { gfxColor := List.replicate (rowPixels s.params) (s.background 0)
      gfxFg := List.replicate (rowPixels s.params) false } }

end Sys2Proof.Machine
end

