-- ==== Sys2Proof/Machine/PortAttributes.lean ====
section
/-! DEFINITION. Port operations on the sprite attribute and collision registers, `0x1B .. 0x1F`
(spec/46_register_port.md R298 to R302). -/

namespace Sys2Proof.Machine

/-- `RD 0x1B` (SPBGPR), R298. -/
def execRd1B (s : State) : Result := readStored 0x1B 0 s

/-- `WR 0x1B, v` (SPBGPR), R298. -/
def execWr1B (v : Byte) (s : State) : Result := writeStored 0x1B v s

/-- `RD 0x1C` (SPMC), R299. -/
def execRd1C (s : State) : Result := readStored 0x1C 0 s

/-- `WR 0x1C, v` (SPMC), R299. -/
def execWr1C (v : Byte) (s : State) : Result := writeStored 0x1C v s

/-- `RD 0x1D` (XXPAND), R300. -/
def execRd1D (s : State) : Result := readStored 0x1D 0 s

/-- `WR 0x1D, v` (XXPAND), R300. -/
def execWr1D (v : Byte) (s : State) : Result := writeStored 0x1D v s

/-- `RD 0x1E` (SPSPCL): the read clears the register, R301. -/
def execRd1E (s : State) : Result := readAndClear 0x1E s

/-- `WR 0x1E, v` (SPSPCL): ignored, R301. -/
def execWr1E (v : Byte) (s : State) : Result := writeIgnored v s

/-- `RD 0x1F` (SPBGCL): the read clears the register, R302. -/
def execRd1F (s : State) : Result := readAndClear 0x1F s

/-- `WR 0x1F, v` (SPBGCL): ignored, R302. -/
def execWr1F (v : Byte) (s : State) : Result := writeIgnored v s

end Sys2Proof.Machine
end

