-- ==== Sys2Proof/Machine/PortColours.lean ====
section
/-! DEFINITION. Port operations on the colour registers, `0x20 .. 0x2E` (spec/46_register_port.md R303 to R317). -/

namespace Sys2Proof.Machine

/-- `RD 0x20` (EC), R303. -/
def execRd20 (s : State) : Result := readStored 0x20 0xF0 s

/-- `WR 0x20, v` (EC), R303. -/
def execWr20 (v : Byte) (s : State) : Result := writeStored 0x20 v s

/-- `RD 0x21` (B0C), R304. -/
def execRd21 (s : State) : Result := readStored 0x21 0xF0 s

/-- `WR 0x21, v` (B0C), R304. -/
def execWr21 (v : Byte) (s : State) : Result := writeStored 0x21 v s

/-- `RD 0x22` (B1C), R305. -/
def execRd22 (s : State) : Result := readStored 0x22 0xF0 s

/-- `WR 0x22, v` (B1C), R305. -/
def execWr22 (v : Byte) (s : State) : Result := writeStored 0x22 v s

/-- `RD 0x23` (B2C), R306. -/
def execRd23 (s : State) : Result := readStored 0x23 0xF0 s

/-- `WR 0x23, v` (B2C), R306. -/
def execWr23 (v : Byte) (s : State) : Result := writeStored 0x23 v s

/-- `RD 0x24` (B3C), R307. -/
def execRd24 (s : State) : Result := readStored 0x24 0xF0 s

/-- `WR 0x24, v` (B3C), R307. -/
def execWr24 (v : Byte) (s : State) : Result := writeStored 0x24 v s

/-- `RD 0x25` (MM0), R308. -/
def execRd25 (s : State) : Result := readStored 0x25 0xF0 s

/-- `WR 0x25, v` (MM0), R308. -/
def execWr25 (v : Byte) (s : State) : Result := writeStored 0x25 v s

/-- `RD 0x26` (MM1), R309. -/
def execRd26 (s : State) : Result := readStored 0x26 0xF0 s

/-- `WR 0x26, v` (MM1), R309. -/
def execWr26 (v : Byte) (s : State) : Result := writeStored 0x26 v s

/-- `RD 0x27` (M0C), R310. -/
def execRd27 (s : State) : Result := readStored 0x27 0xF0 s

/-- `WR 0x27, v` (M0C), R310. -/
def execWr27 (v : Byte) (s : State) : Result := writeStored 0x27 v s

/-- `RD 0x28` (M1C), R311. -/
def execRd28 (s : State) : Result := readStored 0x28 0xF0 s

/-- `WR 0x28, v` (M1C), R311. -/
def execWr28 (v : Byte) (s : State) : Result := writeStored 0x28 v s

/-- `RD 0x29` (M2C), R312. -/
def execRd29 (s : State) : Result := readStored 0x29 0xF0 s

/-- `WR 0x29, v` (M2C), R312. -/
def execWr29 (v : Byte) (s : State) : Result := writeStored 0x29 v s

/-- `RD 0x2A` (M3C), R313. -/
def execRd2A (s : State) : Result := readStored 0x2A 0xF0 s

/-- `WR 0x2A, v` (M3C), R313. -/
def execWr2A (v : Byte) (s : State) : Result := writeStored 0x2A v s

/-- `RD 0x2B` (M4C), R314. -/
def execRd2B (s : State) : Result := readStored 0x2B 0xF0 s

/-- `WR 0x2B, v` (M4C), R314. -/
def execWr2B (v : Byte) (s : State) : Result := writeStored 0x2B v s

/-- `RD 0x2C` (M5C), R315. -/
def execRd2C (s : State) : Result := readStored 0x2C 0xF0 s

/-- `WR 0x2C, v` (M5C), R315. -/
def execWr2C (v : Byte) (s : State) : Result := writeStored 0x2C v s

/-- `RD 0x2D` (M6C), R316. -/
def execRd2D (s : State) : Result := readStored 0x2D 0xF0 s

/-- `WR 0x2D, v` (M6C), R316. -/
def execWr2D (v : Byte) (s : State) : Result := writeStored 0x2D v s

/-- `RD 0x2E` (M7C), R317. -/
def execRd2E (s : State) : Result := readStored 0x2E 0xF0 s

/-- `WR 0x2E, v` (M7C), R317. -/
def execWr2E (v : Byte) (s : State) : Result := writeStored 0x2E v s

end Sys2Proof.Machine
end

