-- ==== Sys2Proof/Machine/PortControl.lean ====
section
/-! DEFINITION. Port operations on the control, raster, light-pen, enable, expansion and base registers,
`0x11 .. 0x18` (spec/46_register_port.md R288 to R295). -/

namespace Sys2Proof.Machine

/-- `RD 0x11` (CR1): bit 7 is bit 8 of the raster line, not the stored compare bit, R288. -/
def execRd11 (s : State) : Result :=
  .next (s.portReturn (BitVec.ofBool (s.cursor.scanline.getLsbD 8) ++ (s.reg 0x11).extractLsb' 0 7))

/-- `WR 0x11, v` (CR1), R288. -/
def execWr11 (v : Byte) (s : State) : Result := writeStored 0x11 v s

/-- `RD 0x12` (RASTER): the low 8 bits of the raster line, R289. -/
def execRd12 (s : State) : Result := .next (s.portReturn (s.cursor.scanline.extractLsb' 0 8))

/-- `WR 0x12, v` (RASTER): the low 8 bits of the raster compare value, R289. -/
def execWr12 (v : Byte) (s : State) : Result := writeStored 0x12 v s

/-- `RD 0x13` (LPX): the light-pen latch, R290. -/
def execRd13 (s : State) : Result := readStored 0x13 0 s

/-- `WR 0x13, v` (LPX): ignored, R290. -/
def execWr13 (v : Byte) (s : State) : Result := writeIgnored v s

/-- `RD 0x14` (LPY): the light-pen latch, R291. -/
def execRd14 (s : State) : Result := readStored 0x14 0 s

/-- `WR 0x14, v` (LPY): ignored, R291. -/
def execWr14 (v : Byte) (s : State) : Result := writeIgnored v s

/-- `RD 0x15` (SPENA), R292. -/
def execRd15 (s : State) : Result := readStored 0x15 0 s

/-- `WR 0x15, v` (SPENA), R292. -/
def execWr15 (v : Byte) (s : State) : Result := writeStored 0x15 v s

/-- `RD 0x16` (CR2), R293. -/
def execRd16 (s : State) : Result := readStored 0x16 0xC0 s

/-- `WR 0x16, v` (CR2), R293. -/
def execWr16 (v : Byte) (s : State) : Result := writeStored 0x16 v s

/-- `RD 0x17` (YXPAND), R294. -/
def execRd17 (s : State) : Result := readStored 0x17 0 s

/-- `WR 0x17, v` (YXPAND), R294. -/
def execWr17 (v : Byte) (s : State) : Result := writeStored 0x17 v s

/-- `RD 0x18` (VMCSB), R295. -/
def execRd18 (s : State) : Result := readStored 0x18 0x01 s

/-- `WR 0x18, v` (VMCSB), R295. -/
def execWr18 (v : Byte) (s : State) : Result := writeStored 0x18 v s

end Sys2Proof.Machine
end

