-- ==== Sys2Proof/Machine/PortInterrupt.lean ====
section
/-! DEFINITION. Port operations on the interrupt registers, `0x19` and `0x1A` (spec/46_register_port.md R296, R297). -/

namespace Sys2Proof.Machine

/-- `RD 0x19` (VICIRQ), R296. -/
def execRd19 (s : State) : Result := .next (s.portReturn s.flagRegister)

/-- `WR 0x19, v` (VICIRQ): clears the flags whose bit in `v` is 1 and stores nothing, R296. -/
def execWr19 (v : Byte) (s : State) : Result := .next (s.acknowledgeIrq (v.extractLsb' 0 4))

/-- `RD 0x1A` (IRQMASK), R297. -/
def execRd1A (s : State) : Result := readStored 0x1A 0xF0 s

/-- `WR 0x1A, v` (IRQMASK): the line is re-evaluated after the store, R297. -/
def execWr1A (v : Byte) (s : State) : Result := .next (State.reportIrq s.irqLine (s.setReg 0x1A v))

end Sys2Proof.Machine
end

