-- ==== Sys2Proof/Machine/PortSprites.lean ====
section
/-! DEFINITION. Port operations on the sprite coordinates, `0x00 .. 0x10` (spec/46_register_port.md R271 to R287). -/

namespace Sys2Proof.Machine

/-- `RD 0x00` (M0X), R271. -/
def execRd00 (s : State) : Result := readStored 0x00 0 s

/-- `WR 0x00, v` (M0X), R271. -/
def execWr00 (v : Byte) (s : State) : Result := writeStored 0x00 v s

/-- `RD 0x01` (M0Y), R272. -/
def execRd01 (s : State) : Result := readStored 0x01 0 s

/-- `WR 0x01, v` (M0Y), R272. -/
def execWr01 (v : Byte) (s : State) : Result := writeStored 0x01 v s

/-- `RD 0x02` (M1X), R273. -/
def execRd02 (s : State) : Result := readStored 0x02 0 s

/-- `WR 0x02, v` (M1X), R273. -/
def execWr02 (v : Byte) (s : State) : Result := writeStored 0x02 v s

/-- `RD 0x03` (M1Y), R274. -/
def execRd03 (s : State) : Result := readStored 0x03 0 s

/-- `WR 0x03, v` (M1Y), R274. -/
def execWr03 (v : Byte) (s : State) : Result := writeStored 0x03 v s

/-- `RD 0x04` (M2X), R275. -/
def execRd04 (s : State) : Result := readStored 0x04 0 s

/-- `WR 0x04, v` (M2X), R275. -/
def execWr04 (v : Byte) (s : State) : Result := writeStored 0x04 v s

/-- `RD 0x05` (M2Y), R276. -/
def execRd05 (s : State) : Result := readStored 0x05 0 s

/-- `WR 0x05, v` (M2Y), R276. -/
def execWr05 (v : Byte) (s : State) : Result := writeStored 0x05 v s

/-- `RD 0x06` (M3X), R277. -/
def execRd06 (s : State) : Result := readStored 0x06 0 s

/-- `WR 0x06, v` (M3X), R277. -/
def execWr06 (v : Byte) (s : State) : Result := writeStored 0x06 v s

/-- `RD 0x07` (M3Y), R278. -/
def execRd07 (s : State) : Result := readStored 0x07 0 s

/-- `WR 0x07, v` (M3Y), R278. -/
def execWr07 (v : Byte) (s : State) : Result := writeStored 0x07 v s

/-- `RD 0x08` (M4X), R279. -/
def execRd08 (s : State) : Result := readStored 0x08 0 s

/-- `WR 0x08, v` (M4X), R279. -/
def execWr08 (v : Byte) (s : State) : Result := writeStored 0x08 v s

/-- `RD 0x09` (M4Y), R280. -/
def execRd09 (s : State) : Result := readStored 0x09 0 s

/-- `WR 0x09, v` (M4Y), R280. -/
def execWr09 (v : Byte) (s : State) : Result := writeStored 0x09 v s

/-- `RD 0x0A` (M5X), R281. -/
def execRd0A (s : State) : Result := readStored 0x0A 0 s

/-- `WR 0x0A, v` (M5X), R281. -/
def execWr0A (v : Byte) (s : State) : Result := writeStored 0x0A v s

/-- `RD 0x0B` (M5Y), R282. -/
def execRd0B (s : State) : Result := readStored 0x0B 0 s

/-- `WR 0x0B, v` (M5Y), R282. -/
def execWr0B (v : Byte) (s : State) : Result := writeStored 0x0B v s

/-- `RD 0x0C` (M6X), R283. -/
def execRd0C (s : State) : Result := readStored 0x0C 0 s

/-- `WR 0x0C, v` (M6X), R283. -/
def execWr0C (v : Byte) (s : State) : Result := writeStored 0x0C v s

/-- `RD 0x0D` (M6Y), R284. -/
def execRd0D (s : State) : Result := readStored 0x0D 0 s

/-- `WR 0x0D, v` (M6Y), R284. -/
def execWr0D (v : Byte) (s : State) : Result := writeStored 0x0D v s

/-- `RD 0x0E` (M7X), R285. -/
def execRd0E (s : State) : Result := readStored 0x0E 0 s

/-- `WR 0x0E, v` (M7X), R285. -/
def execWr0E (v : Byte) (s : State) : Result := writeStored 0x0E v s

/-- `RD 0x0F` (M7Y), R286. -/
def execRd0F (s : State) : Result := readStored 0x0F 0 s

/-- `WR 0x0F, v` (M7Y), R286. -/
def execWr0F (v : Byte) (s : State) : Result := writeStored 0x0F v s

/-- `RD 0x10` (MSIGX), R287. -/
def execRd10 (s : State) : Result := readStored 0x10 0 s

/-- `WR 0x10, v` (MSIGX), R287. -/
def execWr10 (v : Byte) (s : State) : Result := writeStored 0x10 v s

end Sys2Proof.Machine
end

