-- ==== Sys2Proof/Machine/PortUnused.lean ====
section
/-! DEFINITION. Port operations on the unused range `0x2F .. 0x3F`, which has no storage
(spec/46_register_port.md R318). -/

namespace Sys2Proof.Machine

/-- `RD 0x2F`, R318. -/
def execRd2F (s : State) : Result := readUnused s

/-- `RD 0x30 .. 0x3F`, R318. -/
def execRdUnused (_low : Nibble) (s : State) : Result := readUnused s

/-- `WR 0x2F, v`, R318. -/
def execWr2F (v : Byte) (s : State) : Result := writeIgnored v s

/-- `WR 0x30 .. 0x3F, v`, R318. -/
def execWrUnused (_low : Nibble) (v : Byte) (s : State) : Result := writeIgnored v s

end Sys2Proof.Machine
end

