-- ==== Sys2Proof/Machine/Sprites.lean ====
section
/-! DEFINITION. The sprite DMA pipeline: SPTR, SDATA, T_YEXP, T_DMACHK, T_SPRADV and T_SPRDISP
(spec/44_sprites.md R215 to R221). -/

namespace Sys2Proof.Machine

/-- `SPTR i`: the pointer is the whole byte read, whether or not the DMA is on, R216. -/
def execSptr (i : Fin 8) (s : State) : Result :=
  let v := s.memAnswer (s.pointerAddress i)
  .next ((s.afterMemRead (s.pointerAddress i)).mapSprite i fun u => { u with dataPointer := v })

/-- Store a data byte and advance the running counter (R217). -/
def SpriteUnit.takeByte (u : SpriteUnit) (j : Fin 3) (v : Byte) : SpriteUnit :=
  { u with fetchedData := u.fetchedData.set j.val v, mc := u.mc + 1 }

/-- `SDATA i.j`: with the DMA on one data byte is read, with it off the access is an idle read (R217). -/
def State.spriteData (s : State) (i : Fin 8) (j : Fin 3) : State :=
  let u := s.sprites[i]
  if u.dmaEnabled then
    let v := s.memAnswer u.dataAddress
    (s.afterMemRead u.dataAddress).mapSprite i fun u => u.takeByte j v
  else s.idleRead

/-- `SDATA i.0`, R217. -/
def execSdata0 (i : Fin 8) (s : State) : Result := .next (s.spriteData i 0)

/-- `SDATA i.1`, R217. -/
def execSdata1 (i : Fin 8) (s : State) : Result := .next (s.spriteData i 1)

/-- `SDATA i.2`, R217. -/
def execSdata2 (i : Fin 8) (s : State) : Result := .next (s.spriteData i 2)

/-- T_YEXP for one unit: the latch toggles when the sprite is Y-expanded and is set when it is not (R218). -/
def SpriteUnit.expand (u : SpriteUnit) (yExpanded : Bool) : SpriteUnit :=
  { u with yExpansionLatch := if yExpanded then !u.yExpansionLatch else true }

/-- `T_YEXP`, R218. -/
def execTYexp (s : State) : Result := .next (s.mapSprites fun i u => u.expand (s.spriteYExpanded i))

/-- T_DMACHK for one unit: the DMA starts when the sprite is enabled, its Y matches and the DMA is off (R219). -/
def SpriteUnit.startDma (u : SpriteUnit) (enabled yMatches yExpanded : Bool) : SpriteUnit :=
  if enabled && yMatches && !u.dmaEnabled then
    { u with
      dmaEnabled := true
      mcBase := 0
      yExpansionLatch := if yExpanded then false else u.yExpansionLatch }
  else u

/-- `T_DMACHK`, R219. -/
def execTDmachk (s : State) : Result :=
  .next (s.mapSprites fun i u => u.startDma (s.spriteEnabled i) (s.spriteYMatches i) (s.spriteYExpanded i))

/-- `mcBase` after T_SPRADV's advance, which the latch allows (R220). -/
def SpriteUnit.advancedBase (u : SpriteUnit) : BitVec 6 := if u.yExpansionLatch then u.mcBase + 3 else u.mcBase

/-- T_SPRADV for one unit: with the DMA on the base advances, and the DMA ends at 63 or when the sprite is disabled
(R220). -/
def SpriteUnit.advance (u : SpriteUnit) (enabled : Bool) : SpriteUnit :=
  if u.dmaEnabled then
    { u with mcBase := u.advancedBase, dmaEnabled := !(u.advancedBase == 63 || !enabled) }
  else u

/-- `T_SPRADV`, R220. -/
def execTSpradv (s : State) : Result := .next (s.mapSprites fun i u => u.advance (s.spriteEnabled i))

/-- T_SPRDISP for one unit: the counter is loaded; the sprite shows from its Y match on, until the DMA is off
(R221). -/
def SpriteUnit.updateDisplay (u : SpriteUnit) (enabled yMatches : Bool) : SpriteUnit :=
  { u with
    mc := u.mcBase
    displayEnabled := if u.dmaEnabled then (enabled && yMatches) || u.displayEnabled else false }

/-- `T_SPRDISP`, R221. -/
def execTSprdisp (s : State) : Result :=
  .next (s.mapSprites fun i u => u.updateDisplay (s.spriteEnabled i) (s.spriteYMatches i))

end Sys2Proof.Machine
end

