-- ==== Sys2Proof/Machine/Dispatch.lean ====
section
/-! DEFINITION. The meaning of every instruction: one arm per row of spec/opcode_table.json. -/

namespace Sys2Proof.Machine

def exec (i : Instr) (s : State) : Host.Outcome State Fault Refusal :=
  match i with
  | .rd00 => Sys2Proof.Machine.execRd00 s
  | .wr00 v => Sys2Proof.Machine.execWr00 v s
  | .rd01 => Sys2Proof.Machine.execRd01 s
  | .wr01 v => Sys2Proof.Machine.execWr01 v s
  | .rd02 => Sys2Proof.Machine.execRd02 s
  | .wr02 v => Sys2Proof.Machine.execWr02 v s
  | .rd03 => Sys2Proof.Machine.execRd03 s
  | .wr03 v => Sys2Proof.Machine.execWr03 v s
  | .rd04 => Sys2Proof.Machine.execRd04 s
  | .wr04 v => Sys2Proof.Machine.execWr04 v s
  | .rd05 => Sys2Proof.Machine.execRd05 s
  | .wr05 v => Sys2Proof.Machine.execWr05 v s
  | .rd06 => Sys2Proof.Machine.execRd06 s
  | .wr06 v => Sys2Proof.Machine.execWr06 v s
  | .rd07 => Sys2Proof.Machine.execRd07 s
  | .wr07 v => Sys2Proof.Machine.execWr07 v s
  | .rd08 => Sys2Proof.Machine.execRd08 s
  | .wr08 v => Sys2Proof.Machine.execWr08 v s
  | .rd09 => Sys2Proof.Machine.execRd09 s
  | .wr09 v => Sys2Proof.Machine.execWr09 v s
  | .rd0A => Sys2Proof.Machine.execRd0A s
  | .wr0A v => Sys2Proof.Machine.execWr0A v s
  | .rd0B => Sys2Proof.Machine.execRd0B s
  | .wr0B v => Sys2Proof.Machine.execWr0B v s
  | .rd0C => Sys2Proof.Machine.execRd0C s
  | .wr0C v => Sys2Proof.Machine.execWr0C v s
  | .rd0D => Sys2Proof.Machine.execRd0D s
  | .wr0D v => Sys2Proof.Machine.execWr0D v s
  | .rd0E => Sys2Proof.Machine.execRd0E s
  | .wr0E v => Sys2Proof.Machine.execWr0E v s
  | .rd0F => Sys2Proof.Machine.execRd0F s
  | .wr0F v => Sys2Proof.Machine.execWr0F v s
  | .rd10 => Sys2Proof.Machine.execRd10 s
  | .wr10 v => Sys2Proof.Machine.execWr10 v s
  | .rd11 => Sys2Proof.Machine.execRd11 s
  | .wr11 v => Sys2Proof.Machine.execWr11 v s
  | .rd12 => Sys2Proof.Machine.execRd12 s
  | .wr12 v => Sys2Proof.Machine.execWr12 v s
  | .rd13 => Sys2Proof.Machine.execRd13 s
  | .wr13 v => Sys2Proof.Machine.execWr13 v s
  | .rd14 => Sys2Proof.Machine.execRd14 s
  | .wr14 v => Sys2Proof.Machine.execWr14 v s
  | .rd15 => Sys2Proof.Machine.execRd15 s
  | .wr15 v => Sys2Proof.Machine.execWr15 v s
  | .rd16 => Sys2Proof.Machine.execRd16 s
  | .wr16 v => Sys2Proof.Machine.execWr16 v s
  | .rd17 => Sys2Proof.Machine.execRd17 s
  | .wr17 v => Sys2Proof.Machine.execWr17 v s
  | .rd18 => Sys2Proof.Machine.execRd18 s
  | .wr18 v => Sys2Proof.Machine.execWr18 v s
  | .rd19 => Sys2Proof.Machine.execRd19 s
  | .wr19 v => Sys2Proof.Machine.execWr19 v s
  | .rd1A => Sys2Proof.Machine.execRd1A s
  | .wr1A v => Sys2Proof.Machine.execWr1A v s
  | .rd1B => Sys2Proof.Machine.execRd1B s
  | .wr1B v => Sys2Proof.Machine.execWr1B v s
  | .rd1C => Sys2Proof.Machine.execRd1C s
  | .wr1C v => Sys2Proof.Machine.execWr1C v s
  | .rd1D => Sys2Proof.Machine.execRd1D s
  | .wr1D v => Sys2Proof.Machine.execWr1D v s
  | .rd1E => Sys2Proof.Machine.execRd1E s
  | .wr1E v => Sys2Proof.Machine.execWr1E v s
  | .rd1F => Sys2Proof.Machine.execRd1F s
  | .wr1F v => Sys2Proof.Machine.execWr1F v s
  | .rd20 => Sys2Proof.Machine.execRd20 s
  | .wr20 v => Sys2Proof.Machine.execWr20 v s
  | .rd21 => Sys2Proof.Machine.execRd21 s
  | .wr21 v => Sys2Proof.Machine.execWr21 v s
  | .rd22 => Sys2Proof.Machine.execRd22 s
  | .wr22 v => Sys2Proof.Machine.execWr22 v s
  | .rd23 => Sys2Proof.Machine.execRd23 s
  | .wr23 v => Sys2Proof.Machine.execWr23 v s
  | .rd24 => Sys2Proof.Machine.execRd24 s
  | .wr24 v => Sys2Proof.Machine.execWr24 v s
  | .rd25 => Sys2Proof.Machine.execRd25 s
  | .wr25 v => Sys2Proof.Machine.execWr25 v s
  | .rd26 => Sys2Proof.Machine.execRd26 s
  | .wr26 v => Sys2Proof.Machine.execWr26 v s
  | .rd27 => Sys2Proof.Machine.execRd27 s
  | .wr27 v => Sys2Proof.Machine.execWr27 v s
  | .rd28 => Sys2Proof.Machine.execRd28 s
  | .wr28 v => Sys2Proof.Machine.execWr28 v s
  | .rd29 => Sys2Proof.Machine.execRd29 s
  | .wr29 v => Sys2Proof.Machine.execWr29 v s
  | .rd2A => Sys2Proof.Machine.execRd2A s
  | .wr2A v => Sys2Proof.Machine.execWr2A v s
  | .rd2B => Sys2Proof.Machine.execRd2B s
  | .wr2B v => Sys2Proof.Machine.execWr2B v s
  | .rd2C => Sys2Proof.Machine.execRd2C s
  | .wr2C v => Sys2Proof.Machine.execWr2C v s
  | .rd2D => Sys2Proof.Machine.execRd2D s
  | .wr2D v => Sys2Proof.Machine.execWr2D v s
  | .rd2E => Sys2Proof.Machine.execRd2E s
  | .wr2E v => Sys2Proof.Machine.execWr2E v s
  | .rd2F => Sys2Proof.Machine.execRd2F s
  | .rdUnused low => Sys2Proof.Machine.execRdUnused low s
  | .wr2F v => Sys2Proof.Machine.execWr2F v s
  | .wrUnused low v => Sys2Proof.Machine.execWrUnused low v s
  | .idle => Sys2Proof.Machine.execIdle s
  | .refresh => Sys2Proof.Machine.execRefresh s
  | .sptr n => Sys2Proof.Machine.execSptr n s
  | .sdata0 n => Sys2Proof.Machine.execSdata0 n s
  | .sdata1 n => Sys2Proof.Machine.execSdata1 n s
  | .sdata2 n => Sys2Proof.Machine.execSdata2 n s
  | .matrix => Sys2Proof.Machine.execMatrix s
  | .gfx => Sys2Proof.Machine.execGfx s
  | .tRaster => Sys2Proof.Machine.execTRaster s
  | .tBadline => Sys2Proof.Machine.execTBadline s
  | .tVborder => Sys2Proof.Machine.execTVborder s
  | .tClearline => Sys2Proof.Machine.execTClearline s
  | .tVcload => Sys2Proof.Machine.execTVcload s
  | .tSpradv => Sys2Proof.Machine.execTSpradv s
  | .tYexp => Sys2Proof.Machine.execTYexp s
  | .tDmachk => Sys2Proof.Machine.execTDmachk s
  | .tDraw => Sys2Proof.Machine.execTDraw s
  | .tSprdisp => Sys2Proof.Machine.execTSprdisp s
  | .tRcadv => Sys2Proof.Machine.execTRcadv s
  | .tHleft cs => Sys2Proof.Machine.execTHleft cs s
  | .tHright cs => Sys2Proof.Machine.execTHright cs s
  | .tBsample0 => Sys2Proof.Machine.execTBsample0 s
  | .tBsample1 => Sys2Proof.Machine.execTBsample1 s
  | .tBsample2 => Sys2Proof.Machine.execTBsample2 s
  | .tBsample3 => Sys2Proof.Machine.execTBsample3 s
  | .tBsample4 => Sys2Proof.Machine.execTBsample4 s

end Sys2Proof.Machine
end

