-- ==== Sys2Proof/Machine/Reset.lean ====
section
/-! DEFINITION. The operation `RESET` (spec/70_reset_and_hazards.md R370, R371). -/

namespace Sys2Proof.Machine

/-- `RESET`: every element takes its reset value; a held CPU is released and an asserted line is lowered, in that
order. The parameters and the environment stay (R370, R371). -/
def State.resetChip (s : State) : State :=
  let s1 := State.atReset s.params s.env
  let s2 := if s.arbiter.cpuSuspended then s1.emit .resumeCpu else s1
  if s.irqLine then s2.emit (.setIrqLine false) else s2

end Sys2Proof.Machine
end

