-- ==== Sys2Proof/Machine/Fetch.lean ====
section
/-! DEFINITION. Fetching and running: where the next instruction comes from, what each agent's operation does, and
the chip's `STEP` in one piece (spec/00_scope.md R2, spec/40_cycle_machine.md R121). An instruction is fetched in
one of two places: a micro-operation word from the step in progress, a port word from what the CPU sends between
steps. -/

namespace Sys2Proof.Machine

/-- Run a micro-operation word; one that R100 reserves is refused. -/
def performWord (w : Byte) (s : State) : Result :=
  match decodeMicroOp w with
  | .ok i => exec i s
  | .error _ => .refused (.reservedMicroOp w)

/-- Run an item of the step in progress (R121). -/
def performWork : Work → State → Result
  | .word w, s => performWord w s
  | .arbitrate, s => .next s.arbitrate
  | .advance, s => .next s.advanceCursor

/-- Run a port transaction; a word of more than 7 bits is refused (R90, R270). -/
def performPort (word data : Byte) (s : State) : Result :=
  match decodePort [word, data] with
  | .ok (i, _) => exec i s
  | .error _ => .refused (.notAPortWord word)

/-- Run what an agent does between two steps (R2). -/
def performRequest : Request → State → Result
  | .tick, s => s.beginCycle
  | .port word data, s => performPort word data s
  | .reset, s => .next s.resetChip
  | .pen button x y, s => .next { s with env := { s.env with penButton := button, penX := x, penY := y } }
  | .memory a v, s =>
    .next { s with env := { s.env with videoMemory := Memory.write none s.env.videoMemory a.toNat v } }
  | .colour a v, s =>
    .next { s with env := { s.env with colourMemory := Memory.write none s.env.colourMemory a.toNat v } }

/-- One step of the model: the next item of the chip's step in progress, so that every `STEP` is atomic for the
other agents; between steps the next agent's operation, and when none is pending the scheduler's `STEP` (R2,
R79). -/
def stepOnce (s : State) : Result :=
  match s.agenda with
  | w :: rest => performWork w { s with agenda := rest }
  | [] =>
    match s.env.requests with
    | [] => s.beginCycle
    | r :: rest => performRequest r { s with env := { s.env with requests := rest } }

/-- Run items one after the other. -/
def runWork : List Work → State → Result
  | [], s => .next s
  | w :: ws, s => (performWork w s).andThen (runWork ws)

/-- The chip's `STEP` as R121 gives it, whole: the light-pen sample and then every item of the cycle. -/
def chipStep (s : State) : Result :=
  match cycleWords s.params.variant s.cursor.cycleInLine with
  | none => .fault (.cursorOffTable s.cursor.cycleInLine)
  | some d => runWork d.items s.lightPenSample

/-- `n` consecutive `STEP`s with no other operation between them: the `STEP n` of R102. -/
def chipSteps : Nat → State → Result
  | 0, s => .next s
  | n + 1, s => (chipStep s).andThen (chipSteps n)

/-- The cycle in which a micro-operation has a column: the cursor's own cycle where it has one there, else the
first cycle the tables place it in (R95). -/
def placedCycle (i : Instr) (cycle : Nat) : Nat :=
  if i.wellPlaced cycle then cycle
  else
    match i with
    | .gfx => 16
    | .matrix => 15
    | _ => cycle

/-- The state whose very next step fetches and runs the instruction of these bytes. A port word is what the CPU
sends next, no step being in progress; a micro-operation word is the next item of a step in progress, in a cycle in
which it has a column. -/
def placeBytes (s : State) (bytes : List Byte) : State :=
  match tableFormat bytes with
  | .port =>
    { s with
      agenda := []
      env := { s.env with requests := .port (bytes.getD 0 0) (bytes.getD 1 0) :: s.env.requests } }
  | .microOp =>
    match decodeMicroOp (bytes.getD 0 0) with
    | .ok i =>
      { s with
        agenda := .word (bytes.getD 0 0) :: s.agenda
        cursor := { s.cursor with cycleInLine := placedCycle i s.cursor.cycleInLine } }
    | .error _ => { s with agenda := .word (bytes.getD 0 0) :: s.agenda }

end Sys2Proof.Machine
end

