-- ==== Sys2Proof/Machine/Step.lean ====
section
/-! DEFINITION. The step of the machine, and the state that runs a given instruction next. Both only call
Machine/Fetch.lean. -/

namespace Sys2Proof.Machine

/-- One step: one instruction, or one of the untabled items of R121 and R2 (see `stepOnce`). -/
def step (s : State) : Host.Outcome State Fault Refusal := stepOnce s

/-- The state with an instruction, numbered as opcode_table.json numbers its bits, where `step` fetches its next
instruction (see `placeBytes`). -/
def State.withFetchWord (s : State) (nbits w : Nat) : State := placeBytes s (tableBytes nbits w)

end Sys2Proof.Machine
end

