-- ==== Sys2Proof/Safety.lean ====
section
/-! DEFINITION. What counts as a good state, in the terms the claims use: the ranges and canonical forms the spec
gives its state elements (spec/10_state.md), and what the environment has been told of the two output lines. -/

namespace Sys2Proof.Machine

/-- A port word the CPU may send has 7 bits (R90, R270). -/
def Request.valid : Request → Bool
  | .port word _ => !word.getLsbD 7
  | _ => true

/-- The ranges of a sprite unit: `mcBase` is a multiple of 3, and 63 only with the DMA off (R220); the fourth byte
of the latch keeps its reset value (R16). -/
structure SpriteUnit.Good (u : SpriteUnit) : Prop where
  base : u.mcBase.toNat % 3 = 0
  ended : u.mcBase = 63 → u.dmaEnabled = false
  fourth : u.fetchedData[3] = 0

/-- The step in progress holds the last items of the descriptor of the current cycle, in order (R121). -/
def State.AgendaGood (s : State) : Prop :=
  s.agenda = [] ∨ ∃ d, cycleWords s.params.variant s.cursor.cycleInLine = some d ∧ s.agenda <:+ d.items

/-- A good state: the parameters in range, the cursor on the table, every buffer of its length, every memory in its
canonical form, and the relations between state elements that the rules keep. -/
structure State.Good (s : State) : Prop where
  params : s.params.valid = true
  cycleLow : 1 ≤ s.cursor.cycleInLine
  cycleHigh : s.cursor.cycleInLine ≤ s.params.cyclesPerLine
  line : s.cursor.scanline.toNat < s.params.totalLines
  colors : s.gfxLine.gfxColor.length = rowPixels s.params
  foreground : s.gfxLine.gfxFg.length = rowPixels s.params
  spriteHits : s.collision.spriteCollision.length = rowPixels s.params
  foregroundHits : s.collision.foregroundCollision.length = rowPixels s.params
  frame : Memory.wf s.params.totalLines (some (blankRow s.params)) s.framebuffer = true
  rows : ∀ e ∈ s.framebuffer, e.2.length = rowPixels s.params
  sprites : ∀ i : Fin 8, s.sprites[i].Good
  flagCell : s.reg 0x19 = 0
  badLine : s.display.isBadLine = true → s.display.displayActive = true
  countdown : s.arbiter.resumeCountdown ≤ s.params.waitAdj
  requesting : s.arbiter.busRequestedPrev = true → s.arbiter.cpuSuspended = true
  videoMemory : Memory.wf 0x4000 none s.env.videoMemory = true
  colourMemory : Memory.wf 0x400 none s.env.colourMemory = true
  agenda : s.AgendaGood
  requests : ∀ r ∈ s.env.requests, r.valid = true

/-- The answer of a step that neither faults nor refuses. -/
def Result.Runs (r : Result) : Prop := ∃ t, r = .next t

/-- What a trace, newest event first, says the CPU is: suspended after `suspendCpu()`, running after `resumeCpu()`
and at the start. -/
def suspendedBy : List (BitVec 64 × Event) → Bool
  | [] => false
  | (_, .suspendCpu) :: _ => true
  | (_, .resumeCpu) :: _ => false
  | _ :: es => suspendedBy es

/-- `suspendCpu()` and `resumeCpu()` alternate in a trace, starting with `suspendCpu()` (R163). -/
def suspensionsAlternate : List (BitVec 64 × Event) → Bool
  | [] => true
  | (_, .suspendCpu) :: es => !suspendedBy es && suspensionsAlternate es
  | (_, .resumeCpu) :: es => suspendedBy es && suspensionsAlternate es
  | _ :: es => suspensionsAlternate es

/-- The level the interrupt sink was last told by a trace; false when it was told none (R343). -/
def levelTold : List (BitVec 64 × Event) → Bool
  | [] => false
  | (_, .setIrqLine level) :: _ => level
  | _ :: es => levelTold es

/-- The trace and the two output lines agree: the CPU is held exactly when the last event says so and the events
alternate (R163), and the sink was last told the present level (R343). -/
structure State.TraceGood (s : State) : Prop where
  suspended : suspendedBy s.env.events = s.arbiter.cpuSuspended
  alternate : suspensionsAlternate s.env.events = true
  told : levelTold s.env.events = s.irqLine

end Sys2Proof.Machine
end

