-- ==== Sys2Proof/Certificates/Slice0/Obligations.lean ====
section
/-! DEFINITION. The statements for the provers. First the vocabulary: the spec's formulas written again in the spec's
own form (shifts and sums of numbers, the loops of R230, the tables of R126 and R319), so that a statement compares
the model with the rule and not with itself. Then one `Obligations.<Name>` per statement. -/

namespace Sys2Proof.Claims

open Sys2Proof.Machine

/-! ### The vocabulary -/

/-- The state after one `MemRead` that the environment answers: one event and one more read (R62). -/
def readMemory (s : State) (a : MemAddr) : State :=
  { s with env := { s.env with
    busReads := s.env.busReads + 1
    events := (s.cursor.globalCycleCounter, .memRead a (s.memAnswer a)) :: s.env.events } }

/-- The state after one `ColRead` (R62). -/
def readColour (s : State) (a : ColAddr) : State :=
  { s with env := { s.env with
    busReads := s.env.busReads + 1
    events := (s.cursor.globalCycleCounter, .colRead a (s.colAnswer a)) :: s.env.events } }

/-- The interrupt line, from the flags and the mask register (R343). -/
def lineOf (flags : BitVec 4) (maskRegister : Byte) : Bool :=
  [0, 1, 2, 3].any fun k => flags.getLsbD k && maskRegister.getLsbD k

/-- The state in which flags were set: the sink hears of it when the line rises with them (R341, R343). -/
def raise (s : State) (mask : BitVec 4) : State :=
  { s with
    irqFlags := s.irqFlags ||| mask
    env := { s.env with
      events :=
        if !lineOf s.irqFlags s.regs[0x1A] && lineOf (s.irqFlags ||| mask) s.regs[0x1A] then
          (s.cursor.globalCycleCounter, .setIrqLine true) :: s.env.events
        else s.env.events } }

/-- The instruction returns a byte to the CPU and changes nothing else. -/
def Returns (i : Instr) (s : State) (b : Byte) : Prop :=
  exec i s = .next { s with env := { s.env with portOut := some b } }

/-- The instruction stores a byte in the register bank and changes nothing else. -/
def Stores (i : Instr) (s : State) (a : Fin 47) (v : Byte) : Prop :=
  exec i s = .next { s with regs := s.regs.set a v }

/-- The instruction changes nothing at all. -/
def Ignored (i : Instr) (s : State) : Prop := exec i s = .next s

/-- The two port words of an address: `0x00 + a` reads, `0x40 + a` followed by the data byte writes (R90, R91). -/
def PortWords (a : Nat) (rd : Instr) (wr : Byte → Instr) : Prop :=
  ∀ (v : Byte) (rest : List Byte),
    decode .port (BitVec.ofNat 8 a :: rest) = .ok (rd, rest) ∧
    decode .port (BitVec.ofNat 8 (0x40 + a) :: v :: rest) = .ok (wr v, rest)

/-- An address that stores what is written and returns it with its unused bits as 1s: the port words, the byte
`RD` returns, the byte `WR` stores, and the byte a read after the write returns. -/
def StoredRegister (a : Fin 47) (rd : Instr) (wr : Byte → Instr) (keep ones : Byte) : Prop :=
  PortWords a rd wr ∧ ∀ (s : State) (v : Byte),
    Returns rd s ((s.regs[a] &&& keep) ||| ones) ∧ Stores (wr v) s a v ∧
    ∀ t, exec (wr v) s = .next t → Returns rd t ((v &&& keep) ||| ones)

/-- An address that is latched by the chip and ignores writes. -/
def ReadOnlyRegister (a : Fin 47) (rd : Instr) (wr : Byte → Instr) : Prop :=
  PortWords a rd wr ∧ ∀ (s : State) (v : Byte), Returns rd s s.regs[a] ∧ Ignored (wr v) s

/-- A collision register: the read returns the byte and clears the register, the write is ignored. -/
def ClearedByRead (a : Fin 47) (rd : Instr) (wr : Byte → Instr) : Prop :=
  PortWords a rd wr ∧ ∀ (s : State) (v : Byte),
    exec rd s = .next { s with regs := s.regs.set a 0, env := { s.env with portOut := some s.regs[a] } } ∧
    Ignored (wr v) s

/-- Where a word stands in the `pre`, `ops` or `post` lists of a variant: the cycle and the position in the list. -/
def placesOf (part : CycleWords → List Byte) (w : Byte) (v : Variant) : List (Nat × Nat) :=
  (List.range v.cyclesPerLine).flatMap fun k =>
    match cycleWords v (k + 1) with
    | some d => ((List.range (part d).length).filter fun n => (part d)[n]? == some w).map fun n => (k + 1, n)
    | none => []

/-- A micro-operation has this word, and both tables hold it at these places and at no others. -/
def Placed (w : Byte) (i : Instr) (pre ops post : Variant → List (Nat × Nat)) : Prop :=
  decodeMicroOp w = .ok i ∧ encode i = [w] ∧ ∀ v,
    placesOf CycleWords.pre w v = pre v ∧ placesOf CycleWords.ops w v = ops v ∧
    placesOf CycleWords.post w v = post v

/-- A trigger of the `pre` lists at these places, the same in both variants. -/
def PlacedPre (w : Byte) (i : Instr) (places : List (Nat × Nat)) : Prop :=
  Placed w i (fun _ => places) (fun _ => []) (fun _ => [])

/-- A trigger of the `post` lists at one place, the same in both variants. -/
def PlacedPost (w : Byte) (i : Instr) (place : Nat × Nat) : Prop :=
  Placed w i (fun _ => []) (fun _ => []) (fun _ => [place])

/-- A bus operation at these places of the `ops` lists. -/
def PlacedOps (w : Byte) (i : Instr) (places : Variant → List (Nat × Nat)) : Prop :=
  Placed w i (fun _ => []) places (fun _ => [])

/-- The cycle of the draw and of sprite 0's pointer read, `CPL - 5` (R6). -/
def drawCycle (v : Variant) : Nat := v.cyclesPerLine - 5

/-- `P(i)` (R6). -/
def pointer (v : Variant) (i : Fin 8) : Nat := (v.cyclesPerLine - 5 - 1 + 2 * i.val) % v.cyclesPerLine + 1

/-- Bit `k` of a register as a number 0 or 1. -/
def bit (b : Byte) (k : Nat) : Nat := b.toNat / 2 ^ k % 2

/-- A register bit, by address and bit number. -/
def flag (s : State) (a : Fin 47) (k : Nat) : Bool := bit s.regs[a] k = 1

/-- A colour register's colour, bits 3:0 (R29). -/
def colour (s : State) (a : Fin 47) : Nibble := BitVec.ofNat 4 (s.regs[a].toNat % 16)

/-- A sprite's stored X coordinate, `reg[0x10][i] : reg[2*i]` as a number (R231). -/
def spriteLeft (s : State) (i : Fin 8) : Nat := 256 * bit s.regs[0x10] i + s.regs[2 * i.val].toNat

/-- A sprite's Y coordinate equals the low 8 bits of the raster line (R219). -/
def yMatch (s : State) (i : Fin 8) : Bool := s.regs[2 * i.val + 1].toNat = s.cursor.scanline.toNat % 256

/-- The MATRIX address, `(reg[0x18][7:4] << 10) | videoCounter` (R69). -/
def matrixAddr (s : State) : MemAddr :=
  BitVec.ofNat 14 ((s.regs[0x18].toNat / 16) <<< 10 ||| s.display.videoCounter.toNat)

/-- The SPTR address, `(reg[0x18][7:4] << 10) | 0x3F8 | i` (R75). -/
def sptrAddr (s : State) (i : Fin 8) : MemAddr :=
  BitVec.ofNat 14 ((s.regs[0x18].toNat / 16) <<< 10 ||| 0x3F8 ||| i.val)

/-- The SDATA address with the DMA on, `(dataPointer << 6) | mc` (R76). -/
def sdataAddr (u : SpriteUnit) : MemAddr := BitVec.ofNat 14 (u.dataPointer.toNat <<< 6 ||| u.mc.toNat)

/-- The REFRESH address, `0x3F00 | refreshCounter` (R77). -/
def refreshAddr (s : State) : MemAddr := BitVec.ofNat 14 (0x3F00 ||| s.refreshCounter.toNat)

/-- The GFX address of a column, as the listing of R190 forms it (R71 to R74). -/
def gfxAddr (s : State) (k : Fin 40) : MemAddr :=
  if s.display.displayActive then
    let a :=
      if flag s 0x11 5 then
        bit s.regs[0x18] 3 <<< 13 ||| s.display.videoCounter.toNat <<< 3 ||| s.display.rowCounter.toNat
      else
        (s.regs[0x18].toNat / 2 % 8) <<< 11 ||| s.lines.matrixLine[k].toNat <<< 3 ||| s.display.rowCounter.toNat
    BitVec.ofNat 14 (if flag s 0x11 6 then a &&& 0x39FF else a)
  else if flag s 0x11 6 then 0x39FF else 0x3FFF

/-- `Std(g, c1, c0)`: colour and foreground bit of the eight pixels, bit 7 the leftmost (R192). -/
def std (g : Byte) (c1 c0 : Nibble) : List (Nibble × Bool) :=
  [7, 6, 5, 4, 3, 2, 1, 0].map fun b => if bit g b = 1 then (c1, true) else (c0, false)

/-- `Multi(g, c[0..3])`: four pairs of bits, bits 7:6 the leftmost, two pixels each (R192). -/
def multi (g : Byte) (c0 c1 c2 c3 : Nibble) : List (Nibble × Bool) :=
  [6, 4, 2, 0].flatMap fun b =>
    let p := g.toNat / 2 ^ b % 4
    let px := ([c0, c1, c2, c3].getD p 0, decide (2 ≤ p))
    [px, px]

/-- `Decode(mode, g, cd, cc)` by the three mode bits `ECM`, `BMM`, `MCM` (R191, R193 to R196, R199, R200). -/
def decodeMode (s : State) (g cd : Byte) (cc : Nibble) : List (Nibble × Bool) :=
  let bg (n : Nat) : Nibble := BitVec.ofNat 4 ((s.regs.getD (0x21 + n) 0).toNat % 16)
  let high : Nibble := BitVec.ofNat 4 (cd.toNat / 16)
  let low : Nibble := BitVec.ofNat 4 (cd.toNat % 16)
  match flag s 0x11 6, flag s 0x11 5, flag s 0x16 4 with
  | false, false, false => std g cc (bg 0)
  | false, false, true =>
    let c : Nibble := BitVec.ofNat 4 (cc.toNat % 8)
    if cc.toNat < 8 then std g c (bg 0) else multi g (bg 0) (bg 1) (bg 2) c
  | false, true, false => std g high low
  | false, true, true => multi g (bg 0) high low cc
  | true, false, false => std g cc (bg (cd.toNat / 64))
  | true, false, true | true, true, false | true, true, true => List.replicate 8 (0, false)

/-- `SourcePixel(i, s)` of a displayed sprite: a colour, or none when transparent (R232). -/
def sourcePixel (s : State) (i : Fin 8) (p : Nat) : Option Nibble :=
  let u := s.sprites[i]
  let data := u.fetchedData[0].toNat * 65536 + u.fetchedData[1].toNat * 256 + u.fetchedData[2].toNat
  let own : Nibble := BitVec.ofNat 4 (s.regs[0x27 + i.val].toNat % 16)
  if flag s 0x1C i then
    match data / 2 ^ (22 - 2 * (p / 2)) % 4 with
    | 0 => none
    | 1 => some (colour s 0x25)
    | 2 => some own
    | _ => some (colour s 0x26)
  else if data / 2 ^ (23 - p) % 2 = 1 then some own else none

/-- `xf`, 2 for an X-expanded sprite, else 1 (R233). -/
def factor (s : State) (i : Fin 8) : Nat := if flag s 0x1D i then 2 else 1

/-- `SpriteWidth(i)` (R233). -/
def spriteWidth (s : State) (i : Fin 8) : Nat := 24 * factor s i

/-- `SpritePixel(i, p)` (R233). -/
def spritePixel (s : State) (i : Fin 8) (p : Nat) : Option Nibble := sourcePixel s i (p / factor s i)

/-- What step 2 of T_DRAW accumulates, per column (R230). -/
structure Accumulated where
  spriteCollision : List Byte
  foregroundCollision : List Byte
  winner : List (Option (Fin 8 × Nibble))

/-- Step 1 of T_DRAW: everything is cleared (R230). -/
def cleared (s : State) : Accumulated :=
  ⟨List.replicate (rowPixels s.params) 0, List.replicate (rowPixels s.params) 0,
    List.replicate (rowPixels s.params) none⟩

/-- The body of step 2 for one pixel of one sprite (R230, R231, R235). -/
def accumulatePixel (s : State) (i : Fin 8) (a : Accumulated) (p : Nat) : Accumulated :=
  match spritePixel s i p with
  | none => a
  | some c =>
    let x := spriteLeft s i + p
    if x < rowPixels s.params then
      { spriteCollision := a.spriteCollision.modify x (· ||| 1#8 <<< i.val)
        foregroundCollision :=
          if s.gfxFgAt x then a.foregroundCollision.modify x (· ||| 1#8 <<< i.val) else a.foregroundCollision
        winner := a.winner.set x (some (i, c)) }
    else a

/-- Step 2 for one sprite: the loop over its pixels, when it is displayed (R230). -/
def accumulateSprite (s : State) (a : Accumulated) (i : Fin 8) : Accumulated :=
  if s.sprites[i].displayEnabled then (List.range (spriteWidth s i)).foldl (accumulatePixel s i) a else a

/-- Step 2 of T_DRAW: the sprites from 7 down to 0 (R230). -/
def accumulated (s : State) : Accumulated :=
  ([7, 6, 5, 4, 3, 2, 1, 0] : List (Fin 8)).foldl (accumulateSprite s) (cleared s)

/-- The number of set bits of a byte. -/
def popcount (b : Byte) : Nat := bit b 0 + bit b 1 + bit b 2 + bit b 3 + bit b 4 + bit b 5 + bit b 6 + bit b 7

/-- `ss` after step 3 of T_DRAW (R230). -/
def spriteSprite (s : State) : Byte :=
  (accumulated s).spriteCollision.foldl (fun ss m => if 2 ≤ popcount m then ss ||| m else ss) 0

/-- `sb` after step 3 of T_DRAW (R230). -/
def spriteBackground (s : State) : Byte := (accumulated s).foregroundCollision.foldl (fun sb m => sb ||| m) 0

/-- The border sample that governs a column, 0 to 4 (R255). -/
def span (x : Nat) : Fin 5 :=
  if x ≤ 23 then 0 else if x ≤ 30 then 1 else if x ≤ 334 then 2 else if x ≤ 343 then 3 else 4

/-- `out[x]` after step 3 of T_DRAW: the winner over the graphics by priority, the border over both (R230, R234,
R256). -/
def drawn (s : State) (x : Nat) : Nibble :=
  if s.border.sampleV[span x] || s.border.sampleH[span x] then colour s 0x20
  else
    match (accumulated s).winner.getD x none with
    | some (i, c) => if flag s 0x1B i && s.gfxFgAt x then s.gfxColorAt x else c
    | none => s.gfxColorAt x

/-- `CollisionLatch(ss, sb)`, statement by statement, the sink told when the line rises (R236, R343). -/
def collisionLatch (s : State) (ss sb : Byte) : State :=
  let s1 :=
    if ss ≠ 0 then
      let r := if s.regs[0x1E] = 0 then raise s 0x4 else s
      { r with regs := r.regs.set 0x1E (r.regs[0x1E] ||| ss) }
    else s
  if sb ≠ 0 then
    let r := if s1.regs[0x1F] = 0 then raise s1 0x2 else s1
    { r with regs := r.regs.set 0x1F (r.regs[0x1F] ||| sb) }
  else s1

/-- `BAWindow(i)` (R161), as a list of cycles. -/
def window (v : Variant) (i : Fin 8) : List Nat :=
  (List.range 5).map fun k => (pointer v i + v.cyclesPerLine - 4 + k) % v.cyclesPerLine + 1

/-- `BusRequest(c)` (R161). -/
def requests (s : State) (c : Nat) : Prop :=
  (s.display.isBadLine = true ∧ 12 ≤ c ∧ c ≤ 54) ∨
  ∃ i : Fin 8, s.sprites[i].dmaEnabled = true ∧ c ∈ window s.params.variant i

/-- The descriptor of a cycle by the parametrised table (R126). -/
def tableEntry (v : Variant) (c : Nat) : Descriptor where
  pre :=
    if c = 1 then [.tRaster, .tBadline, .tVborder]
    else if c = 14 then [.tVcload]
    else if c = 16 then [.tSpradv]
    else if c = 17 then [.tHleft true]
    else if c = 18 then [.tHleft false]
    else if c = 55 then [.tYexp, .tDmachk]
    else if c = 56 then [.tHright false, .tDmachk]
    else if c = 57 then [.tHright true]
    else if c = drawCycle v then [.tDraw, .tSprdisp, .tRcadv]
    else []
  ops :=
    match spriteNumbers.find? fun i => pointer v i == c with
    | some i => [.sptr i, .sdata0 i]
    | none =>
      match spriteNumbers.find? fun i => pointer v i % v.cyclesPerLine + 1 == c with
      | some i => [.sdata1 i, .sdata2 i]
      | none =>
        if 11 ≤ c ∧ c ≤ 14 then [.refresh]
        else if c = 15 then [.refresh, .matrix]
        else if 16 ≤ c ∧ c ≤ 54 then [.gfx, .matrix]
        else if c = 55 then [.gfx]
        else if 56 ≤ c ∧ c < drawCycle v then [.idle]
        else []
  post :=
    if c = 13 then [.tClearline, .tBsample0]
    else if c = 17 then [.tBsample1]
    else if c = 18 then [.tBsample2]
    else if c = 56 then [.tBsample3]
    else if c = 57 then [.tBsample4]
    else []

/-- The byte `RD a` returns, by the table of read masks (R319). -/
def readByte (s : State) (a : BitVec 6) : Byte :=
  let stored := s.regs.getD a.toNat 0
  if a.toNat ≤ 0x10 then stored
  else if a = 0x11 then BitVec.ofNat 8 (s.cursor.scanline.toNat / 256 * 128) ||| (stored &&& 0x7F)
  else if a = 0x12 then BitVec.ofNat 8 (s.cursor.scanline.toNat % 256)
  else if a.toNat ≤ 0x15 then stored
  else if a = 0x16 then (stored &&& 0x3F) ||| 0xC0
  else if a = 0x17 then stored
  else if a = 0x18 then (stored &&& 0xFE) ||| 0x01
  else if a = 0x19 then
    BitVec.ofNat 8 ((if lineOf s.irqFlags s.regs[0x1A] then 0x80 else 0) + 0x70 + s.irqFlags.toNat)
  else if a = 0x1A then (stored &&& 0x0F) ||| 0xF0
  else if a.toNat ≤ 0x1F then stored
  else if a.toNat ≤ 0x2E then (stored &&& 0x0F) ||| 0xF0
  else 0xFF

/-- Run words of a descriptor one after the other. -/
def performAll : List Byte → State → Result
  | [], s => .next s
  | w :: ws, s => (performWord w s).andThen (performAll ws)

/-- The chip is between two steps and no agent has anything else to do: the scheduler's `STEP` comes next (R2). -/
def AtStep (s : State) : Prop := s.agenda = [] ∧ s.env.requests = []

/-- The read of an SDATA of a sprite: a data byte with its DMA on, an idle read with it off (R217). -/
def sdataRead (s : State) (i : Fin 8) : MemAddr := if s.sprites[i].dmaEnabled then sdataAddr s.sprites[i] else 0x3FFF

/-- The reads of the bus that the rules list for an instruction in a state, each with its address and the answer it
is given, in the order the rules perform them (R130, R131, R179, R190, R216, R217); no other rule lists a read. The
column of GFX is `cycleInLine - 16`. -/
def listedReads (s : State) : Instr → List Event
  | .idle => [.memRead 0x3FFF (s.memAnswer 0x3FFF)]
  | .refresh => [.memRead (refreshAddr s) (s.memAnswer (refreshAddr s))]
  | .sptr i => [.memRead (sptrAddr s i) (s.memAnswer (sptrAddr s i))]
  | .sdata0 i | .sdata1 i | .sdata2 i => [.memRead (sdataRead s i) (s.memAnswer (sdataRead s i))]
  | .matrix =>
    if s.display.isBadLine then
      [.memRead (matrixAddr s) (s.memAnswer (matrixAddr s)),
        .colRead s.display.videoCounter ((readMemory s (matrixAddr s)).colAnswer s.display.videoCounter)]
    else []
  | .gfx =>
    let a := gfxAddr s (Fin.ofNat 40 (s.cursor.cycleInLine - 16))
    [.memRead a (s.memAnswer a)]
  | _ => []

/-- An event is a read of the bus. -/
def isRead : Event → Bool
  | .memRead _ _ => true
  | .colRead _ _ => true
  | _ => false

end Sys2Proof.Claims

open Sys2Proof Sys2Proof.Machine Sys2Proof.Claims

/-! ### Encodings -/

/-- Decoding what the encoder writes gives the instruction back, with every operand at every value, and leaves the
bytes behind it (R90, R91, R95, R96). -/
def Obligations.DecodeEncodeAgree : Prop :=
  ∀ (i : Instr) (rest : List Byte), decode i.format (encode i ++ rest) = .ok (i, rest)

/-- The other direction: whatever decodes is the encoding of what it decodes to, so no word has two meanings and two
words never mean the same (R91: every port word matches exactly one row; R95). -/
def Obligations.EveryDecodedWordIsItsEncoding : Prop :=
  ∀ (f : Format) (bytes rest : List Byte) (i : Instr),
    decode f bytes = .ok (i, rest) → i.format = f ∧ bytes = encode i ++ rest

/-- Every one of the 128 port words is legal: `w = 0` is the read of the 6-bit address, `w = 1` with a data byte its
write (R90). -/
def Obligations.EveryPortWordIsLegal : Prop :=
  ∀ (a : BitVec 6) (v : Byte) (rest : List Byte),
    decode .port ((0#2 ++ a) :: rest) = .ok (readOperation a, rest) ∧
    decode .port ((0b01#2 ++ a) :: v :: rest) = .ok (writeOperation a v, rest) ∧
    (readOperation a).kind = .port ∧ (writeOperation a v).kind = .port

/-- The decoder refuses exactly the micro-operation words that R100 lists as reserved, and neither cycle table holds
one of them. -/
def Obligations.ReservedMicroOpWordsRefused : Prop :=
  (∀ w : Byte,
    (decodeMicroOp w = .error (.reservedMicroOp w) ↔
      0xE0 ≤ w.toNat ∨
      (w.toNat / 32 = 6 ∧ (w.toNat % 32 = 11 ∨ 21 ≤ w.toNat % 32)) ∨
      (w.toNat / 32 = 3 ∧ w.toNat % 4 = 3) ∨
      (w.toNat / 32 = 2 ∧ 8 ≤ w.toNat % 32) ∨
      (w.toNat / 32 ∈ [0, 1, 4, 5] ∧ w.toNat % 32 ≠ 0))) ∧
  ∀ v, ∀ d ∈ cycleTable v, ∀ w ∈ d.pre ++ d.ops ++ d.post, ∃ i, decodeMicroOp w = .ok i

/-- A few words written out from the tables of R91, R95 and R96. -/
def Obligations.SampleWordsDecode : Prop :=
  decode .port [0b0010001] = .ok (.rd11, []) ∧
  decode .port [0b1011010, 0x0F] = .ok (.wr1A 0x0F, []) ∧
  decode .port [0b0110101] = .ok (.rdUnused 5, []) ∧
  decode .microOp [0b00000000] = .ok (.idle, []) ∧
  decode .microOp [0b01000011] = .ok (.sptr 3, []) ∧
  decode .microOp [0b01101110] = .ok (.sdata2 3, []) ∧
  decode .microOp [0b10100000] = .ok (.gfx, []) ∧
  decode .microOp [0b11001100] = .ok (.tHleft false, []) ∧
  decode .microOp [0b11010100] = .ok (.tBsample4, [])

/-! ### The step -/

/-- A step runs the decoded instruction, from the two places the model fetches at (assumptions 2 and 4): when the
next item of the step in progress is a word that decodes to `i`, the step is `exec i` with that item taken off; when
no step is in progress and the CPU's next operation is a port word that decodes to `i`, the step is `exec i` with
that operation taken off. Nothing else is done around `exec`. -/
def Obligations.StepRunsTheDecodedInstruction : Prop :=
  ∀ (s : State) (i : Instr),
    (∀ w rest, s.agenda = .word w :: rest → decodeMicroOp w = .ok i →
      step s = exec i { s with agenda := rest }) ∧
    (∀ w v l rest, s.agenda = [] → s.env.requests = .port w v :: rest → decodePort [w, v] = .ok (i, l) →
      step s = exec i { s with env := { s.env with requests := rest } })

/-- `STEP` in the model's small steps (assumption 4): from between two steps, one step samples the light pen and
takes up the descriptor of the cycle, and one more for each of its items runs the `pre` triggers, the arbitration,
the bus operations, the `post` triggers and the cursor advance, in this order (R121). -/
def Obligations.StepsOfACycleAreItsListing : Prop :=
  ∀ (s : State) (d : CycleWords), AtStep s → cycleWords s.params.variant s.cursor.cycleInLine = some d →
    Host.Core.run Sys2Proof.core (d.pre.length + d.ops.length + d.post.length + 3) s =
      (performAll d.pre s.lightPenSample).andThen fun s3 =>
      (performAll d.ops s3.arbitrate).andThen fun s5 =>
      (performAll d.post s5).andThen fun s6 => .next s6.advanceCursor

/-- A step in progress is atomic for the other agents, although the model takes it in small steps (assumption 4):
while an item of it is left, a step of the model takes that item and touches neither the operations that wait nor the
light-pen inputs nor what lies behind the bus (R2). -/
def Obligations.StepInProgressIsAtomic : Prop :=
  ∀ (s t : State) (w : Work) (rest : List Work), s.agenda = w :: rest → step s = .next t →
    t.agenda = rest ∧ t.env.requests = s.env.requests ∧ t.env.penButton = s.env.penButton ∧
    t.env.penX = s.env.penX ∧ t.env.penY = s.env.penY ∧ t.env.videoMemory = s.env.videoMemory ∧
    t.env.colourMemory = s.env.colourMemory

/-- The light-pen sample, item 1 of every `STEP` and the first of the model's small steps (assumption 4): the button
is asked for once; on the first rising edge of a frame X and then Y are asked for and latched, X divided by two, and
flag bit 3 is set (R352). The step also takes up the descriptor of the cycle. -/
def Obligations.LightPenSampledFirst : Prop :=
  ∀ (s : State) (d : CycleWords), AtStep s → cycleWords s.params.variant s.cursor.cycleInLine = some d →
    let e := s.env
    let g := s.cursor.globalCycleCounter
    let asked : State := { s with env := { e with events := (g, .lpButton e.penButton) :: e.events } }
    let edge := e.penButton && !s.pen.lpPrev && !s.pen.lpTriggeredThisFrame
    let latched : State := { s with
      regs := (s.regs.set 0x13 (BitVec.ofInt 8 (e.penX / 2))).set 0x14 (BitVec.ofInt 8 e.penY)
      env := { e with events := (g, .lpY e.penY) :: (g, .lpX e.penX) :: (g, .lpButton e.penButton) :: e.events } }
    let sampled := if edge then raise latched 0x8 else asked
    step s = .next { sampled with
      pen := ⟨e.penButton, edge || s.pen.lpTriggeredThisFrame⟩
      agenda :=
        d.pre.map Work.word ++ Work.arbitrate :: d.ops.map Work.word ++ d.post.map Work.word ++ [Work.advance] }

/-- Arbitrate, a small step of its own in the model (assumption 4): a requesting cycle times the first request of a
run, suspends the CPU once and loads the countdown; any other cycle counts down and resumes a suspended CPU when the
countdown is over (R161, R163). -/
def Obligations.ArbitrateByTheListing : Prop :=
  ∀ (s : State) (rest : List Work), s.agenda = .arbitrate :: rest →
    let g := s.cursor.globalCycleCounter
    let a := s.arbiter
    (requests s s.cursor.cycleInLine →
      step s = .next { s with
        agenda := rest
        arbiter := ⟨true, if a.busRequestedPrev then a.busOwnedSince else g, s.params.waitAdj, true⟩
        env := { s.env with
          events :=
            if a.cpuSuspended then s.env.events else (g, .suspendCpu) :: s.env.events } }) ∧
    (¬ requests s s.cursor.cycleInLine → a.cpuSuspended = true → a.resumeCountdown = 0 →
      step s = .next { s with
        agenda := rest
        arbiter := ⟨false, a.busOwnedSince, 0, false⟩
        env := { s.env with events := (g, .resumeCpu) :: s.env.events } }) ∧
    (¬ requests s s.cursor.cycleInLine → a.cpuSuspended = true → a.resumeCountdown ≠ 0 →
      step s = .next { s with
        agenda := rest, arbiter := ⟨true, a.busOwnedSince, a.resumeCountdown - 1, false⟩ }) ∧
    (¬ requests s s.cursor.cycleInLine → a.cpuSuspended = false →
      step s = .next { s with
        agenda := rest, arbiter := ⟨false, a.busOwnedSince, a.resumeCountdown, false⟩ })

/-- The request windows of R162, which the spec derives from R161: for each sprite of each variant the cycles in which
its DMA requests the bus, and for a bad line the cycles 12 to 54. -/
def Obligations.BusRequestWindows : Prop :=
  ∀ (s : State) (c : Nat), 1 ≤ c → c ≤ s.params.cyclesPerLine →
    let windows : List (List Nat) :=
      match s.params.variant with
      | .v63 => [[55, 56, 57, 58, 59], [57, 58, 59, 60, 61], [59, 60, 61, 62, 63], [61, 62, 63, 1, 2],
          [63, 1, 2, 3, 4], [2, 3, 4, 5, 6], [4, 5, 6, 7, 8], [6, 7, 8, 9, 10]]
      | .v65 => [[57, 58, 59, 60, 61], [59, 60, 61, 62, 63], [61, 62, 63, 64, 65], [63, 64, 65, 1, 2],
          [65, 1, 2, 3, 4], [2, 3, 4, 5, 6], [4, 5, 6, 7, 8], [6, 7, 8, 9, 10]]
    (s.busRequest c = true ↔
      (s.display.isBadLine = true ∧ 12 ≤ c ∧ c ≤ 54) ∨
      ∃ i : Fin 8, s.sprites[i].dmaEnabled = true ∧ c ∈ windows.getD i.val [])

/-- AdvanceCursor with FrameWrap, the last small step of a `STEP` (assumption 4): the counters advance, a line ends
after cycle `CPL`, a frame after line `TL - 1`, and the frame wrap rearms what R127 lists (R123, R127). -/
def Obligations.AdvanceCursorByTheListing : Prop :=
  ∀ (s : State) (rest : List Work), s.agenda = .advance :: rest →
    let c := s.cursor
    let g := c.globalCycleCounter + 1
    (c.cycleInLine ≠ s.params.cyclesPerLine →
      step s = .next { s with agenda := rest, cursor := ⟨c.scanline, c.cycleInLine + 1, g⟩ }) ∧
    (c.cycleInLine = s.params.cyclesPerLine → c.scanline.toNat ≠ s.params.totalLines - 1 →
      step s = .next { s with agenda := rest, cursor := ⟨c.scanline + 1, 1, g⟩ }) ∧
    (c.cycleInLine = s.params.cyclesPerLine → 1 ≤ s.params.totalLines →
      c.scanline.toNat = s.params.totalLines - 1 →
      step s = .next { s with
        agenda := rest
        cursor := ⟨0, 1, g⟩
        display := { s.display with videoCounter := 0, videoCounterBase := 0, badLinesEnabledThisFrame := false }
        refreshCounter := 0xFF
        pen := { s.pen with lpTriggeredThisFrame := false } })

/-- Both cycle tables are the one parametrised table of R126, which the spec derives from R124 and R125; every
descriptor of it is well formed in its cycle, and there is none off the table. -/
def Obligations.CycleTablesAreTheParametrisedTable : Prop :=
  ∀ v : Variant,
    (∀ c, 1 ≤ c → c ≤ v.cyclesPerLine → ∃ d, cycleWords v c = some d ∧ d.descriptor = tableEntry v c ∧
      d.descriptor.wellFormed c = true ∧
      (d.pre ++ d.ops ++ d.post).length = (d.descriptor.pre ++ d.descriptor.ops ++ d.descriptor.post).length) ∧
    ∀ c, c = 0 ∨ v.cyclesPerLine < c → cycleWords v c = none

/-- Cycle coverage: from any good state between two steps, `CPL` steps lead to the same cycle of the next line
(modulo `TL`), and `CPL * TL` steps back to the same cycle of the same line; every one of those steps completes
(R150, which the spec derives from R123). -/
def Obligations.CycleCoverage : Prop :=
  ∀ s : State, s.Good → s.agenda = [] →
    (∃ t, chipSteps s.params.cyclesPerLine s = .next t ∧
      t.cursor.cycleInLine = s.cursor.cycleInLine ∧
      t.cursor.scanline.toNat = (s.cursor.scanline.toNat + 1) % s.params.totalLines ∧
      t.cursor.globalCycleCounter = s.cursor.globalCycleCounter + BitVec.ofNat 64 s.params.cyclesPerLine) ∧
    ∃ t, chipSteps (s.params.cyclesPerLine * s.params.totalLines) s = .next t ∧
      t.cursor.cycleInLine = s.cursor.cycleInLine ∧ t.cursor.scanline = s.cursor.scanline ∧
      t.cursor.globalCycleCounter =
        s.cursor.globalCycleCounter + BitVec.ofNat 64 (s.params.cyclesPerLine * s.params.totalLines)

/-! ### The register port -/

/-- The sprite X coordinate ports 0x00 to 0x0E and MSIGX (rd00, wr00, rd02, wr02, rd04, wr04, rd06, wr06, rd08, wr08,
rd0A, wr0A, rd0C, wr0C, rd0E, wr0E, rd10, wr10): all 8 bits are returned and stored; with `reg[0x10]` they form the
9-bit X coordinate of each sprite (R271 to R287, odd rules). -/
def Obligations.SpriteXPort : Prop :=
  StoredRegister 0x00 .rd00 .wr00 0xFF 0 ∧ StoredRegister 0x02 .rd02 .wr02 0xFF 0 ∧
  StoredRegister 0x04 .rd04 .wr04 0xFF 0 ∧ StoredRegister 0x06 .rd06 .wr06 0xFF 0 ∧
  StoredRegister 0x08 .rd08 .wr08 0xFF 0 ∧ StoredRegister 0x0A .rd0A .wr0A 0xFF 0 ∧
  StoredRegister 0x0C .rd0C .wr0C 0xFF 0 ∧ StoredRegister 0x0E .rd0E .wr0E 0xFF 0 ∧
  StoredRegister 0x10 .rd10 .wr10 0xFF 0 ∧
  ∀ (s : State) (i : Fin 8), (s.spriteX i).toNat = spriteLeft s i

/-- The sprite Y coordinate ports 0x01 to 0x0F (rd01, wr01, rd03, wr03, rd05, wr05, rd07, wr07, rd09, wr09, rd0B,
wr0B, rd0D, wr0D, rd0F, wr0F): all 8 bits are returned and stored; the byte is what is compared with the low 8 bits
of the raster line (R272 to R286, even rules). -/
def Obligations.SpriteYPort : Prop :=
  StoredRegister 0x01 .rd01 .wr01 0xFF 0 ∧ StoredRegister 0x03 .rd03 .wr03 0xFF 0 ∧
  StoredRegister 0x05 .rd05 .wr05 0xFF 0 ∧ StoredRegister 0x07 .rd07 .wr07 0xFF 0 ∧
  StoredRegister 0x09 .rd09 .wr09 0xFF 0 ∧ StoredRegister 0x0B .rd0B .wr0B 0xFF 0 ∧
  StoredRegister 0x0D .rd0D .wr0D 0xFF 0 ∧ StoredRegister 0x0F .rd0F .wr0F 0xFF 0 ∧
  ∀ (s : State) (i : Fin 8), s.spriteYMatches i = yMatch s i

/-- CR1 and RASTER (rd11, wr11, rd12, wr12): the reads return the raster line, not the stored compare bits; the writes
store all 8 bits and emit nothing; the two stored bytes form the 9-bit compare value (R288, R289, R23). -/
def Obligations.RasterPort : Prop :=
  PortWords 0x11 .rd11 .wr11 ∧ PortWords 0x12 .rd12 .wr12 ∧ ∀ (s : State) (v : Byte),
    Returns .rd11 s (BitVec.ofNat 8 ((s.cursor.scanline.toNat / 256) <<< 7) ||| (s.regs[0x11] &&& 0x7F)) ∧
    Stores (.wr11 v) s 0x11 v ∧
    Returns .rd12 s (BitVec.ofNat 8 (s.cursor.scanline.toNat % 256)) ∧
    Stores (.wr12 v) s 0x12 v ∧
    s.rasterCompare.toNat = 256 * bit s.regs[0x11] 7 + s.regs[0x12].toNat

/-- The mode, base and per-sprite bit registers (rd15, wr15, rd16, wr16, rd17, wr17, rd18, wr18, rd1B, wr1B, rd1C,
wr1C, rd1D, wr1D): unused bits are returned as 1s, the writes store all 8 bits, and the fields are where R24, R26 and
R27 say (R292 to R295, R298 to R300). -/
def Obligations.ModeAndSpriteBitsPort : Prop :=
  StoredRegister 0x15 .rd15 .wr15 0xFF 0 ∧ StoredRegister 0x16 .rd16 .wr16 0x3F 0xC0 ∧
  StoredRegister 0x17 .rd17 .wr17 0xFF 0 ∧ StoredRegister 0x18 .rd18 .wr18 0xFE 0x01 ∧
  StoredRegister 0x1B .rd1B .wr1B 0xFF 0 ∧ StoredRegister 0x1C .rd1C .wr1C 0xFF 0 ∧
  StoredRegister 0x1D .rd1D .wr1D 0xFF 0 ∧
  ∀ (s : State) (i : Fin 8),
    s.mcm = flag s 0x16 4 ∧ s.csel = flag s 0x16 3 ∧ s.xscroll.toNat = s.regs[0x16].toNat % 8 ∧
    s.vm.toNat = s.regs[0x18].toNat / 16 ∧ s.cb.toNat = s.regs[0x18].toNat / 2 % 8 ∧
    s.spriteEnabled i = flag s 0x15 i ∧ s.spriteYExpanded i = flag s 0x17 i ∧ s.spriteBehind i = flag s 0x1B i ∧
    s.spriteMulticolour i = flag s 0x1C i ∧ s.spriteXExpanded i = flag s 0x1D i

/-- The unused range (rd2F, wr2F, rdUnused, wrUnused): every read returns 0xFF, every write is ignored (R318). -/
def Obligations.UnusedPort : Prop :=
  PortWords 0x2F .rd2F .wr2F ∧
  (∀ low : Nibble, PortWords (0x30 + low.toNat) (.rdUnused low) (.wrUnused low)) ∧
  ∀ (s : State) (low : Nibble) (v : Byte),
    Returns .rd2F s 0xFF ∧ Ignored (.wr2F v) s ∧ Returns (.rdUnused low) s 0xFF ∧ Ignored (.wrUnused low v) s

/-- VICIRQ (rd19, wr19): the read returns the derived line in bit 7, 1s in bits 6:4 and the flags; the write clears
exactly the flags whose bit is 1, stores nothing, and tells the sink when the line falls; reading again shows the
other flags unchanged (R296). -/
def Obligations.InterruptFlagPort : Prop :=
  PortWords 0x19 .rd19 .wr19 ∧ ∀ (s : State) (v : Byte),
    (∀ t : State, Returns .rd19 t
      (BitVec.ofNat 8 ((if lineOf t.irqFlags t.regs[0x1A] then 0x80 else 0) + 0x70 + t.irqFlags.toNat))) ∧
    ∃ t, exec (.wr19 v) s = .next t ∧
      (∀ k : Fin 4, t.irqFlags.getLsbD k = (s.irqFlags.getLsbD k && !v.getLsbD k)) ∧
      t = { s with
        irqFlags := t.irqFlags
        env := { s.env with
          events :=
            if lineOf s.irqFlags s.regs[0x1A] && !lineOf t.irqFlags s.regs[0x1A] then
              (s.cursor.globalCycleCounter, .setIrqLine false) :: s.env.events
            else s.env.events } }

/-- IRQMASK (rd1A, wr1A): bits 7:4 are returned as 1s; the write stores the byte and the line is re-evaluated at once,
the sink hearing of a change (R297). -/
def Obligations.InterruptMaskPort : Prop :=
  PortWords 0x1A .rd1A .wr1A ∧ ∀ (s : State) (v : Byte),
    Returns .rd1A s ((s.regs[0x1A] &&& 0x0F) ||| 0xF0) ∧
    exec (.wr1A v) s = .next { s with
      regs := s.regs.set 0x1A v
      env := { s.env with
        events :=
          if lineOf s.irqFlags v = lineOf s.irqFlags s.regs[0x1A] then s.env.events
          else (s.cursor.globalCycleCounter, .setIrqLine (lineOf s.irqFlags v)) :: s.env.events } }

/-- The registers only the chip writes: the light-pen latches (rd13, wr13, rd14, wr14) are returned as they are; a
read of a collision register (rd1E, wr1E, rd1F, wr1F) returns the byte, clears the register and touches nothing else,
the flags neither; no other port read changes a register or the flags; every write is ignored (R290, R291, R301,
R302). -/
def Obligations.ChipWrittenPort : Prop :=
  ReadOnlyRegister 0x13 .rd13 .wr13 ∧ ReadOnlyRegister 0x14 .rd14 .wr14 ∧
  ClearedByRead 0x1E .rd1E .wr1E ∧ ClearedByRead 0x1F .rd1F .wr1F ∧
  ∀ (s : State) (a : BitVec 6), a ≠ 0x1E → a ≠ 0x1F → ∃ b, Returns (readOperation a) s b

/-- The border, background and sprite multicolour registers (rd20, wr20, rd21, wr21, rd22, wr22, rd23, wr23, rd24,
wr24, rd25, wr25, rd26, wr26): bits 7:4 are returned as 1s, the writes store all 8 bits (R303 to R309). -/
def Obligations.SharedColoursPort : Prop :=
  StoredRegister 0x20 .rd20 .wr20 0x0F 0xF0 ∧ StoredRegister 0x21 .rd21 .wr21 0x0F 0xF0 ∧
  StoredRegister 0x22 .rd22 .wr22 0x0F 0xF0 ∧ StoredRegister 0x23 .rd23 .wr23 0x0F 0xF0 ∧
  StoredRegister 0x24 .rd24 .wr24 0x0F 0xF0 ∧ StoredRegister 0x25 .rd25 .wr25 0x0F 0xF0 ∧
  StoredRegister 0x26 .rd26 .wr26 0x0F 0xF0

/-- The sprites' own colour registers (rd27, wr27, rd28, wr28, rd29, wr29, rd2A, wr2A, rd2B, wr2B, rd2C, wr2C, rd2D,
wr2D, rd2E, wr2E): bits 7:4 are returned as 1s, the writes store all 8 bits (R310 to R317). -/
def Obligations.SpriteColoursPort : Prop :=
  StoredRegister 0x27 .rd27 .wr27 0x0F 0xF0 ∧ StoredRegister 0x28 .rd28 .wr28 0x0F 0xF0 ∧
  StoredRegister 0x29 .rd29 .wr29 0x0F 0xF0 ∧ StoredRegister 0x2A .rd2A .wr2A 0x0F 0xF0 ∧
  StoredRegister 0x2B .rd2B .wr2B 0x0F 0xF0 ∧ StoredRegister 0x2C .rd2C .wr2C 0x0F 0xF0 ∧
  StoredRegister 0x2D .rd2D .wr2D 0x0F 0xF0 ∧ StoredRegister 0x2E .rd2E .wr2E 0x0F 0xF0

/-- The table of read masks, for all 64 addresses at once: the byte returned, the two registers a read clears, and
that a read changes nothing else. The spec derives R319 from the rules of the addresses. -/
def Obligations.ReadsByTheMaskTable : Prop :=
  ∀ (s : State) (a : BitVec 6),
    exec (readOperation a) s = .next { s with
      regs := if a = 0x1E ∨ a = 0x1F then s.regs.setIfInBounds a.toNat 0 else s.regs
      env := { s.env with portOut := some (readByte s a) } }

/-- Which state a port operation may touch: the register bank, the byte returned, the flags (WR 0x19 only) and one
`setIrqLine` event (WR 0x19 and WR 0x1A only); of the reads only RD 0x1E and RD 0x1F change a register. Every port
operation completes. The spec derives R322 from the rules of the addresses. -/
def Obligations.PortOperationsTouchOnlyTheBank : Prop :=
  ∀ (i : Instr) (s : State), i.kind = .port →
    ∃ t, exec i s = .next t ∧
      t = { s with
        regs := t.regs
        irqFlags := t.irqFlags
        env := { s.env with portOut := t.env.portOut, events := t.env.events } } ∧
      (t.irqFlags ≠ s.irqFlags → ∃ v, i = .wr19 v) ∧
      (t.env.events ≠ s.env.events → ((∃ v, i = .wr19 v) ∨ ∃ v, i = .wr1A v) ∧
        ∃ level, t.env.events = (s.cursor.globalCycleCounter, .setIrqLine level) :: s.env.events) ∧
      ∀ a, i = readOperation a → t.regs ≠ s.regs → i = .rd1E ∨ i = .rd1F

/-! ### The bus operations -/

/-- IDLE and REFRESH: their words, their cycles, the one read each makes, and the refresh counter counting down
(R130, R131, R77, R78). -/
def Obligations.IdleAndRefresh : Prop :=
  PlacedOps 0x00 .idle
    (fun v => match v with | .v63 => [(56, 0), (57, 0)] | .v65 => [(56, 0), (57, 0), (58, 0), (59, 0)]) ∧
  PlacedOps 0x20 .refresh (fun _ => [(11, 0), (12, 0), (13, 0), (14, 0), (15, 0)]) ∧ ∀ s : State,
    exec .idle s = .next (readMemory s 0x3FFF) ∧
    exec .refresh s = .next { readMemory s (refreshAddr s) with
      refreshCounter := BitVec.ofNat 8 ((s.refreshCounter.toNat + 255) % 256) }

/-- SPTR: its words, its cycles, the one read of the sprite's pointer, and the whole byte kept (R216, R75). -/
def Obligations.SpritePointerRead : Prop :=
  ∀ i : Fin 8,
    PlacedOps (BitVec.ofNat 8 (0x40 + i.val)) (.sptr i) (fun v => [(pointer v i, 0)]) ∧
    ∀ s : State, exec (.sptr i) s = .next { readMemory s (sptrAddr s i) with
      sprites := s.sprites.set i { s.sprites[i] with dataPointer := s.memAnswer (sptrAddr s i) } }

/-- SDATA (sdata0, sdata1, sdata2): their words and cycles; with the DMA on one data byte is read and the running
counter advances, with it off the access is an idle read whose answer is discarded (R217, R76, R78). -/
def Obligations.SpriteDataReads : Prop :=
  ∀ (i : Fin 8) (j : Fin 3),
    let op : Instr := match j with | 0 => .sdata0 i | 1 => .sdata1 i | 2 => .sdata2 i
    PlacedOps (BitVec.ofNat 8 (0x60 + 4 * i.val + j.val)) op
      (fun v => if j = 0 then [(pointer v i, 1)] else [(pointer v i % v.cyclesPerLine + 1, j.val - 1)]) ∧
    ∀ s : State, exec op s = .next
      (if s.sprites[i].dmaEnabled then
        { readMemory s (sdataAddr s.sprites[i]) with
          sprites := s.sprites.set i { s.sprites[i] with
            fetchedData := s.sprites[i].fetchedData.set j.val (s.memAnswer (sdataAddr s.sprites[i]))
            mc := BitVec.ofNat 6 ((s.sprites[i].mc.toNat + 1) % 64) } }
      else readMemory s 0x3FFF)

/-- MATRIX of column `k`, in cycle `15 + k`: on a bad line a video memory read and then a colour read fill the column,
on any other line nothing happens at all (R179, R69, R70, R79). -/
def Obligations.MatrixFetch : Prop :=
  PlacedOps 0x80 .matrix (fun _ => (List.range' 15 40).map fun c => (c, 1)) ∧
  ∀ (s : State) (k : Fin 40), s.cursor.cycleInLine = 15 + k.val →
    (s.display.isBadLine = false → Ignored .matrix s) ∧
    (s.display.isBadLine = true →
      let s1 := readMemory s (matrixAddr s)
      exec .matrix s = .next { readColour s1 s.display.videoCounter with lines :=
        { matrixLine := s.lines.matrixLine.set k (s.memAnswer (matrixAddr s))
          colorLine := s.lines.colorLine.set k (s1.colAnswer s.display.videoCounter) } })

/-- GFX of column `k`, in cycle `16 + k`: one read at the address of the mode, `videoCounter` advancing in display
state only, and the eight decoded pixels written from column `24 + 8*k + XSCROLL` on; everything else stays (R190,
R203, with the decode of R191 to R200). -/
def Obligations.GraphicsFetch : Prop :=
  PlacedOps 0xA0 .gfx (fun _ => (List.range' 16 40).map fun c => (c, 0)) ∧
  ∀ (s : State) (k : Fin 40), s.cursor.cycleInLine = 16 + k.val →
    s.gfxLine.gfxColor.length = rowPixels s.params → s.gfxLine.gfxFg.length = rowPixels s.params →
    let active := s.display.displayActive
    let g := s.memAnswer (gfxAddr s k)
    let pixels := decodeMode s g (if active then s.lines.matrixLine[k] else 0) (if active then s.lines.colorLine[k] else 0)
    let x0 := 24 + 8 * k.val + s.regs[0x16].toNat % 8
    ∃ t, exec .gfx s = .next t ∧
      t = { readMemory s (gfxAddr s k) with
        display := { s.display with videoCounter :=
          if active then BitVec.ofNat 10 ((s.display.videoCounter.toNat + 1) % 1024) else s.display.videoCounter }
        gfxLine := t.gfxLine } ∧
      t.gfxLine.gfxColor.length = rowPixels s.params ∧ t.gfxLine.gfxFg.length = rowPixels s.params ∧
      (∀ n, n < 8 → pixels[n]? = some (t.gfxColorAt (x0 + n), t.gfxFgAt (x0 + n))) ∧
      ∀ x, x < x0 ∨ x0 + 8 ≤ x → t.gfxColorAt x = s.gfxColorAt x ∧ t.gfxFgAt x = s.gfxFgAt x

/-- The decode of a graphics byte in each of the eight modes (R191, R192, R193, R194, R195, R196, R199, R200). -/
def Obligations.GraphicsDecodeByMode : Prop :=
  ∀ (s : State) (g cd : Byte) (cc : Nibble),
    (s.decodeByte g cd cc).map (fun p => (p.color, p.fg)) = decodeMode s g cd cc

/-- GFX and MATRIX in a cycle that names no column are refused: the model's choice (assumption 4), since the spec
gives the operation no effect there and neither table places it there (R95). -/
def Obligations.OffColumnRefused : Prop :=
  ∀ s : State,
    (s.cursor.cycleInLine < 16 ∨ 55 < s.cursor.cycleInLine →
      exec .gfx s = .refused (.noColumn s.cursor.cycleInLine)) ∧
    (s.cursor.cycleInLine < 15 ∨ 54 < s.cursor.cycleInLine →
      exec .matrix s = .refused (.noColumn s.cursor.cycleInLine))

/-- The chip makes exactly the bus reads its rules list: of the events an instruction that completes adds to the
trace (which holds the newest first), the reads of the bus are the listed ones, each of its kind, at its address and
with its answer, in their order and with the `G` of the step; and what lies behind the bus is unchanged (R61, R62).
`env.busReads`, the model's own counter of the reads made (assumption 3), goes up by their number. -/
def Obligations.BusReadsAreExactlyTheListed : Prop :=
  ∀ (i : Instr) (s t : State), exec i s = .next t →
    (∃ added, t.env.events = added ++ s.env.events ∧
      (added.reverse.filter fun e => isRead e.2) =
        (listedReads s i).map fun e => (s.cursor.globalCycleCounter, e)) ∧
    t.env.busReads = s.env.busReads + (listedReads s i).length ∧
    t.env.videoMemory = s.env.videoMemory ∧ t.env.colourMemory = s.env.colourMemory

/-! ### The triggers -/

/-- T_RASTER (tRaster): bit 0 is set, and the sink told when the line rises with it, exactly when the 9-bit compare
value is the raster line; nothing else changes (R345). -/
def Obligations.RasterInterrupt : Prop :=
  PlacedPre 0xC0 .tRaster [(1, 0)] ∧ ∀ s : State,
    exec .tRaster s = .next
      (if s.cursor.scanline.toNat = 256 * bit s.regs[0x11] 7 + s.regs[0x12].toNat then raise s 0x1 else s)

/-- T_BADLINE: the latch, the bad-line condition of this line, and the display made active by it (R176, R180). -/
def Obligations.BadLineCondition : Prop :=
  PlacedPre 0xC1 .tBadline [(1, 1)] ∧ ∀ s : State,
    let line := s.cursor.scanline.toNat
    let inWindow := decide (0x30 ≤ line ∧ line ≤ 0xF7)
    let latch := s.display.badLinesEnabledThisFrame || (inWindow && flag s 0x11 4)
    let bad := inWindow && decide (line % 8 = s.regs[0x11].toNat % 8) && latch
    exec .tBadline s = .next { s with display := { s.display with
      badLinesEnabledThisFrame := latch
      isBadLine := bad
      displayActive := bad || s.display.displayActive } }

/-- T_VCLOAD: the video counter is reloaded, and a bad line restarts the row counter (R177). -/
def Obligations.VideoCounterLoad : Prop :=
  PlacedPre 0xC4 .tVcload [(14, 0)] ∧ ∀ s : State,
    exec .tVcload s = .next { s with display := { s.display with
      videoCounter := s.display.videoCounterBase
      rowCounter := if s.display.isBadLine then 0 else s.display.rowCounter } }

/-- T_RCADV, by cases: the end of a row loads the base and goes idle unless the line is bad; in display state the row
counter advances modulo 8 (R178). -/
def Obligations.RowCounterAdvance : Prop :=
  Placed 0xCA .tRcadv (fun v => [(drawCycle v, 2)]) (fun _ => []) (fun _ => []) ∧ ∀ s : State,
    let d := s.display
    let after : Display :=
      if d.rowCounter.toNat = 7 then
        if d.isBadLine then { d with videoCounterBase := d.videoCounter, displayActive := true, rowCounter := 0 }
        else { d with videoCounterBase := d.videoCounter, displayActive := false }
      else if d.isBadLine ∨ d.displayActive then
        { d with displayActive := true, rowCounter := BitVec.ofNat 3 ((d.rowCounter.toNat + 1) % 8) }
      else d
    exec .tRcadv s = .next { s with display := after }

/-- T_CLEARLINE: the whole line buffer becomes background colour 0 without foreground (R205). -/
def Obligations.ClearLine : Prop :=
  PlacedPost 0xC3 .tClearline (13, 0) ∧ ∀ s : State, ∃ t,
    exec .tClearline s = .next t ∧ t = { s with gfxLine := t.gfxLine } ∧
    t.gfxLine.gfxColor.length = rowPixels s.params ∧ t.gfxLine.gfxFg.length = rowPixels s.params ∧
    ∀ x, x < rowPixels s.params → t.gfxColorAt x = colour s 0x21 ∧ t.gfxFgAt x = false

/-- T_YEXP: the latch of a Y-expanded sprite toggles, that of any other is set; nothing else changes (R218). -/
def Obligations.YExpansionBookkeeping : Prop :=
  PlacedPre 0xC6 .tYexp [(55, 0)] ∧ ∀ s : State, ∃ t,
    exec .tYexp s = .next t ∧ t = { s with sprites := t.sprites } ∧
    ∀ i : Fin 8, t.sprites[i] = { s.sprites[i] with
      yExpansionLatch := if flag s 0x17 i then !s.sprites[i].yExpansionLatch else true }

/-- T_DMACHK: an enabled sprite whose Y matches and whose DMA is off gets its DMA turned on and its base cleared, and
its latch too when it is Y-expanded; nothing else changes (R219). -/
def Obligations.SpriteDmaCheck : Prop :=
  PlacedPre 0xC7 .tDmachk [(55, 1), (56, 1)] ∧ ∀ s : State, ∃ t,
    exec .tDmachk s = .next t ∧ t = { s with sprites := t.sprites } ∧
    ∀ i : Fin 8, t.sprites[i] =
      if flag s 0x15 i ∧ yMatch s i ∧ s.sprites[i].dmaEnabled = false then
        { s.sprites[i] with
          dmaEnabled := true
          mcBase := 0
          yExpansionLatch := if flag s 0x17 i then false else s.sprites[i].yExpansionLatch }
      else s.sprites[i]

/-- T_SPRADV: with the DMA on the base advances by 3 modulo 64 where the latch allows it, and the DMA ends when the
new base is 63 or the sprite is disabled; nothing else changes (R220). -/
def Obligations.SpriteAdvance : Prop :=
  PlacedPre 0xC5 .tSpradv [(16, 0)] ∧ ∀ s : State, ∃ t,
    exec .tSpradv s = .next t ∧ t = { s with sprites := t.sprites } ∧
    ∀ i : Fin 8,
      let u := s.sprites[i]
      let base := if u.yExpansionLatch then (u.mcBase.toNat + 3) % 64 else u.mcBase.toNat
      t.sprites[i] =
        if u.dmaEnabled = false then u
        else { u with
          mcBase := BitVec.ofNat 6 base
          dmaEnabled := decide (base ≠ 63 ∧ flag s 0x15 i = true) }

/-- T_SPRDISP: the running counter of every sprite is loaded; a sprite is displayed from its Y match on while its DMA
is on; nothing else changes (R221). -/
def Obligations.SpriteDisplayCheck : Prop :=
  Placed 0xC9 .tSprdisp (fun v => [(drawCycle v, 1)]) (fun _ => []) (fun _ => []) ∧ ∀ s : State, ∃ t,
    exec .tSprdisp s = .next t ∧ t = { s with sprites := t.sprites } ∧
    ∀ i : Fin 8, t.sprites[i] = { s.sprites[i] with
      mc := s.sprites[i].mcBase
      displayEnabled :=
        s.sprites[i].dmaEnabled && (s.sprites[i].displayEnabled || (flag s 0x15 i && yMatch s i)) }

/-- T_VBORDER: set at the stop line whatever `DEN` is, cleared at the start line with `DEN = 1`, else unchanged
(R251). -/
def Obligations.VerticalBorder : Prop :=
  PlacedPre 0xC2 .tVborder [(1, 2)] ∧ ∀ s : State,
    let line := s.cursor.scanline.toNat
    let start := if flag s 0x11 3 then 0x33 else 0x37
    let stop := if flag s 0x11 3 then 0xFB else 0xF7
    exec .tVborder s = .next { s with border := { s.border with
      verticalBorderOn := (s.border.verticalBorderOn && !decide (line = start ∧ flag s 0x11 4 = true)) ||
        decide (line = stop) } }

/-- T_HLEFT and T_HRIGHT: the left check clears the horizontal flip-flop when `CSEL` is its value and `DEN = 1`, the
right check sets it when `CSEL` is its value, whatever `DEN` is (R252, R253). -/
def Obligations.HorizontalBorder : Prop :=
  PlacedPre 0xCD (.tHleft true) [(17, 0)] ∧ PlacedPre 0xCC (.tHleft false) [(18, 0)] ∧
  PlacedPre 0xCE (.tHright false) [(56, 0)] ∧ PlacedPre 0xCF (.tHright true) [(57, 0)] ∧ ∀ (s : State) (cs : Bool),
    exec (.tHleft cs) s = .next { s with border := { s.border with
      horizontalBorderOn := s.border.horizontalBorderOn && !((flag s 0x16 3 == cs) && flag s 0x11 4) } } ∧
    exec (.tHright cs) s = .next { s with border := { s.border with
      horizontalBorderOn := s.border.horizontalBorderOn || (flag s 0x16 3 == cs) } }

/-- T_BSAMPLE 0 to 4 (tBsample0, tBsample1, tBsample2, tBsample3, tBsample4): sample `k` takes both flip-flops and no
other sample changes (R254). -/
def Obligations.BorderSamples : Prop :=
  let ops : List ((Nat × Nat) × Byte × Instr) := [((13, 1), 0xD0, .tBsample0), ((17, 0), 0xD1, .tBsample1),
    ((18, 0), 0xD2, .tBsample2), ((56, 0), 0xD3, .tBsample3), ((57, 0), 0xD4, .tBsample4)]
  ∀ (k : Fin 5) (e : (Nat × Nat) × Byte × Instr), ops[k.val]? = some e →
    PlacedPost e.2.1 e.2.2 e.1 ∧ ∀ s : State,
      exec e.2.2 s = .next { s with border := { s.border with
        sampleV := s.border.sampleV.set k s.border.verticalBorderOn
        sampleH := s.border.sampleH.set k s.border.horizontalBorderOn } }

/-! ### Composite and draw -/

/-- T_DRAW (tDraw) runs the listing of R230: the collision buffers are what the loops over sprites and pixels
accumulate, `CollisionLatch` runs on the masks the third loop reduces them to, the row of this scan line becomes what
the third loop puts out, and every other row of the framebuffer and everything else stays (R230, with R231 to R235,
R237, R255, R256). -/
def Obligations.DrawRunsTheLoops : Prop :=
  Placed 0xC8 .tDraw (fun v => [(drawCycle v, 0)]) (fun _ => []) (fun _ => []) ∧ ∀ s : State, ∃ t,
    exec .tDraw s = .next t ∧
    t = { collisionLatch s (spriteSprite s) (spriteBackground s) with
      collision := ⟨(accumulated s).spriteCollision, (accumulated s).foregroundCollision⟩
      framebuffer := t.framebuffer } ∧
    ∀ y x, x < rowPixels s.params →
      t.framePixel y x = if y = s.cursor.scanline.toNat then drawn s x else s.framePixel y x

/-- CollisionLatch at the end of T_DRAW: each register gains the sprites of its mask, each flag is raised only when
its register goes from 0 to non-zero, no other register changes, and the sink is told of the line at most once (R236,
with the masks of R230). -/
def Obligations.DrawLatchesCollisions : Prop :=
  ∀ s : State, ∃ t, exec .tDraw s = .next t ∧
    t.regs = (s.regs.set 0x1E (s.regs[0x1E] ||| spriteSprite s)).set 0x1F (s.regs[0x1F] ||| spriteBackground s) ∧
    (let sprite : BitVec 4 := if spriteSprite s ≠ 0 ∧ s.regs[0x1E] = 0 then 0x4 else 0
    let background : BitVec 4 := if spriteBackground s ≠ 0 ∧ s.regs[0x1F] = 0 then 0x2 else 0
    t.irqFlags = s.irqFlags ||| sprite ||| background ∧
    t.env.events = (raise s (sprite ||| background)).env.events)

/-- Two displayed sprites that both have a pixel on one column of the row leave their bits in the collision register;
when it was 0, its mask bit is set and the line was low, T_DRAW asserts the line exactly once, however many columns
they share (R239, which the spec derives from R230, R236 and R343). -/
def Obligations.OverlapAssertsTheLineOnce : Prop :=
  ∀ (s : State) (i j : Fin 8) (p q : Nat) (c e : Nibble), i ≠ j →
    s.sprites[i].displayEnabled = true → s.sprites[j].displayEnabled = true →
    p < spriteWidth s i → q < spriteWidth s j → spriteLeft s i + p = spriteLeft s j + q →
    spriteLeft s i + p < rowPixels s.params →
    spritePixel s i p = some c → spritePixel s j q = some e →
    ∃ t, exec .tDraw s = .next t ∧ t.regs[0x1E] ≠ 0 ∧
      t.regs[0x1E].getLsbD i = true ∧ t.regs[0x1E].getLsbD j = true ∧
      (s.regs[0x1E] = 0 → flag s 0x1A 2 = true → lineOf s.irqFlags s.regs[0x1A] = false →
        t.env.events = (s.cursor.globalCycleCounter, .setIrqLine true) :: s.env.events)

/-! ### Reset -/

/-- After `RESET`, taken from the list of what the agents do (assumption 2), every state element has its value of the
table of R50, whatever it was before, the parameters are kept, and the two events are `resumeCpu()` for a held CPU
and then `setIrqLine(false)` for an asserted line (R370, R371, R372, R50). -/
def Obligations.ResetFromAnyState : Prop :=
  ∀ (s : State) (rest : List Request), s.agenda = [] → s.env.requests = .reset :: rest →
    ∃ t, step s = .next t ∧
      t.params = s.params ∧ t.cursor = ⟨0, 1, 0⟩ ∧
      (∀ a : Fin 47, t.regs[a] = 0) ∧ t.irqFlags = 0 ∧
      t.display = ⟨false, false, false, 0, 0, 0⟩ ∧ t.refreshCounter = 0xFF ∧
      (∀ k : Fin 40, t.lines.matrixLine[k] = 0 ∧ t.lines.colorLine[k] = 0) ∧
      (∀ i : Fin 8, t.sprites[i] = ⟨0, 0, 63, false, true, false, #v[0, 0, 0, 0]⟩) ∧
      t.collision = ⟨List.replicate (8 * s.params.cyclesPerLine) 0, List.replicate (8 * s.params.cyclesPerLine) 0⟩ ∧
      t.gfxLine = ⟨List.replicate (8 * s.params.cyclesPerLine) 0, List.replicate (8 * s.params.cyclesPerLine) false⟩ ∧
      t.border = ⟨true, true, #v[true, true, true, true, true], #v[true, true, true, true, true]⟩ ∧
      t.pen = ⟨false, false⟩ ∧ t.arbiter = ⟨false, 0, 0, false⟩ ∧
      (∀ y x, t.framePixel y x = 0) ∧ t.agenda = [] ∧
      t.env = { s.env with
        requests := rest
        events :=
          (if lineOf s.irqFlags s.regs[0x1A] then [(0, .setIrqLine false)] else []) ++
          (if s.arbiter.cpuSuspended then [(0, .resumeCpu)] else []) ++ s.env.events }

/-- Construction with parameters in range gives a chip that is in the state of `RESET` (a `RESET` leaves it as it is)
without an event, and with a `TL` out of range no chip (R374, R375). That the environment it starts in is
`Environment.initial` (no request waiting, the light-pen button not pressed, no answer of the bus known) is the
model's choice (assumption 2, DESIGN CHOICE). -/
def Obligations.ConstructionByTheParameters : Prop :=
  ∀ p : Params,
    (p.totalLines ≤ 0xF7 ∨ 512 < p.totalLines → State.construct p = none) ∧
    (0xF7 < p.totalLines → p.totalLines ≤ 512 → ∃ s, State.construct p = some s ∧ s.params = p ∧
      s.env = Environment.initial ∧ s.resetChip = s ∧ s.irqLine = false ∧ s.Good ∧ s.TraceGood)

/-! ### Whole-machine rules and invariants -/

/-- No instruction moves the cursor, changes the parameters, touches the arbiter or the light-pen state, or does
anything to the step in progress: these belong to the untabled items of `STEP` and to `RESET` (R12, R31, R32, R123,
R374). -/
def Obligations.NoInstructionMovesTheCursor : Prop :=
  ∀ (i : Instr) (s t : State), exec i s = .next t →
    t.cursor = s.cursor ∧ t.params = s.params ∧ t.arbiter = s.arbiter ∧ t.pen = s.pen ∧ t.agenda = s.agenda ∧
    t.env.requests = s.env.requests

/-- Who writes what: only T_DRAW writes the framebuffer and the collision buffers, only MATRIX the line buffers, only
GFX and T_CLEARLINE the graphics line, only REFRESH the refresh counter; no micro-operation writes a register other
than 0x1E and 0x1F; and only WR 0x19 clears an interrupt flag (R10, R14, R15, R17, R18, R30, R33). -/
def Obligations.EachElementHasItsWriters : Prop :=
  ∀ (i : Instr) (s t : State), exec i s = .next t →
    (t.framebuffer ≠ s.framebuffer ∨ t.collision ≠ s.collision → i = .tDraw) ∧
    (t.lines ≠ s.lines → i = .matrix) ∧
    (t.gfxLine ≠ s.gfxLine → i = .gfx ∨ i = .tClearline) ∧
    (t.refreshCounter ≠ s.refreshCounter → i = .refresh) ∧
    (i.kind ≠ .port → ∀ a, a ≠ 0x1E → a ≠ 0x1F → t.reg a = s.reg a) ∧
    ((∃ k : Fin 4, s.irqFlags.getLsbD k = true ∧ t.irqFlags.getLsbD k = false) → ∃ v, i = .wr19 v)

/-- The graphics pipeline looks at nothing but what R190 lists: two states in the cycle of column `k` that agree on
`displayActive`, `matrixLine[k]`, `colorLine[k]`, `videoCounter`, `rowCounter`, `ECM`, `BMM`, `MCM`, `XSCROLL`, `CB`
and `B0C` to `B3C`, and that the bus gives the same answers, make the same read, write the same eight pixels at the
same columns of their line buffers, and leave the same `videoCounter`. Everything else of the two states may differ:
`DEN`, the border, the sprites, `YSCROLL`, the bad-line state, the raster line, the other columns (R207, which the
spec derives, with R190). -/
def Obligations.GraphicsIgnoresBorderAndSprites : Prop :=
  ∀ (s s' t : State) (k : Fin 40),
    s.cursor.cycleInLine = 16 + k.val → s'.cursor.cycleInLine = 16 + k.val →
    s'.display.displayActive = s.display.displayActive →
    s'.lines.matrixLine[k] = s.lines.matrixLine[k] → s'.lines.colorLine[k] = s.lines.colorLine[k] →
    s'.display.videoCounter = s.display.videoCounter → s'.display.rowCounter = s.display.rowCounter →
    flag s' 0x11 6 = flag s 0x11 6 → flag s' 0x11 5 = flag s 0x11 5 → flag s' 0x16 4 = flag s 0x16 4 →
    s'.regs[0x16].toNat % 8 = s.regs[0x16].toNat % 8 → s'.regs[0x18].toNat / 2 % 8 = s.regs[0x18].toNat / 2 % 8 →
    (∀ a : Fin 47, 0x21 ≤ a → a ≤ 0x24 → colour s' a = colour s a) →
    (∀ a, s'.memAnswer a = s.memAnswer a) →
    exec .gfx s = .next t →
    ∃ (t' : State) (e : Event) (pixels : List Pixel), exec .gfx s' = .next t' ∧
      t.env.events = (s.cursor.globalCycleCounter, e) :: s.env.events ∧
      t'.env.events = (s'.cursor.globalCycleCounter, e) :: s'.env.events ∧
      pixels.length = 8 ∧
      t.gfxLine = s.gfxLine.write (24 + 8 * k.val + s.regs[0x16].toNat % 8) pixels ∧
      t'.gfxLine = s'.gfxLine.write (24 + 8 * k.val + s.regs[0x16].toNat % 8) pixels ∧
      t'.display.videoCounter = t.display.videoCounter

/-- The sprite units are independent of each other: what a sprite trigger leaves of unit `i` depends on that unit, on
its own bits and Y register and on the raster line alone, and a sprite access of one unit leaves every other unit as
it was (R215). -/
def Obligations.SpriteUnitsAreIndependent : Prop :=
  (∀ (op : Instr) (s s' t t' : State) (i : Fin 8),
    op ∈ [Instr.tYexp, .tDmachk, .tSpradv, .tSprdisp] → s'.sprites[i] = s.sprites[i] →
    s'.cursor.scanline = s.cursor.scanline → flag s' 0x15 i = flag s 0x15 i → flag s' 0x17 i = flag s 0x17 i →
    s'.spriteY i = s.spriteY i → exec op s = .next t → exec op s' = .next t' → t'.sprites[i] = t.sprites[i]) ∧
  ∀ (op : Instr) (s t : State) (i j : Fin 8), i ≠ j → op ∈ [Instr.sptr j, .sdata0 j, .sdata1 j, .sdata2 j] →
    exec op s = .next t → t.sprites[i] = s.sprites[i]

/-- Within one `STEP` the interrupt line can only rise: the events a whole `STEP` adds hold no `setIrqLine(false)` and
at most one `setIrqLine(true)` (R343). -/
def Obligations.LineOnlyRisesWithinAStep : Prop :=
  ∀ s t : State, chipStep s = .next t →
    ∃ added, t.env.events = added ++ s.env.events ∧ (∀ e ∈ added, e.2 ≠ .setIrqLine false) ∧
      (added.filter fun e => decide (e.2 = .setIrqLine true)).length ≤ 1

/-- From a good state no step stops: no operation, no trigger, no request faults or is refused (R340, R120). -/
def Obligations.GoodStatesNeverStop : Prop := ∀ s : State, s.Good → Result.Runs (step s)

/-- Every step keeps a good state good: the cursor on the table, every buffer of its length, every memory canonical,
`mcBase` a multiple of 3, a bad line in display state, and the step in progress the end of its descriptor (R12, R16,
R33, R220). -/
def Obligations.StepKeepsGoodStates : Prop := ∀ s t : State, s.Good → step s = .next t → t.Good

/-- Every step keeps the trace in agreement with the outputs: `suspendCpu()` and `resumeCpu()` strictly alternate and
the last of them says whether the CPU is held, and the sink was last told the present level of the line (R163,
R343). -/
def Obligations.StepKeepsTheTraceGood : Prop := ∀ s t : State, s.TraceGood → step s = .next t → t.TraceGood

/-- The machine right after reset is a good state, and its empty trace agrees with its outputs. That this machine is
the V63 chip with 312 lines and `WAIT_ADJ = 0`, in an environment where nothing waits and nothing is known, is the
model's choice (assumptions 1 and 2, DESIGN CHOICE); ConstructionByTheParameters says the same of every chip. -/
def Obligations.ResetIsGood : Prop := State.reset.Good ∧ State.reset.TraceGood
end

