-- ==== Sys2Proof/Laws/Memory.lean ====
section
/-! SUPPORT. The laws of the sparse storage: reading after a write, and every operation keeps the canonical form. -/

namespace Sys2Proof.Machine

variable {α : Type}

theorem Memory.find_erase (m : Memory α) (a b : Nat) :
    Memory.find (Memory.erase m a) b = if b = a then none else Memory.find m b := by
  induction m with
  | nil => simp [Memory.erase, Memory.find]
  | cons e m ih =>
    obtain ⟨c, w⟩ := e
    by_cases hca : c = a
    · simp only [Memory.erase, hca, if_true, Memory.find, ih]
      by_cases hb : b = a
      · simp [hb]
      · simp [hb, Ne.symm hb]
    · simp only [Memory.erase, hca, if_false, Memory.find, ih]
      by_cases hcb : c = b
      · subst hcb; simp [hca]
      · simp [hcb]

theorem Memory.find_insert_same (m : Memory α) (a : Nat) (v : α) (h : Memory.find m a = none) :
    Memory.find (Memory.insert m a v) a = some v := by
  induction m with
  | nil => simp [Memory.insert, Memory.find]
  | cons e m ih =>
    obtain ⟨c, w⟩ := e
    simp only [Memory.find] at h
    split at h
    · cases h
    · rename_i hca
      simp only [Memory.insert]
      split
      · simp [Memory.find]
      · simp [Memory.find, hca, ih h]

theorem Memory.find_insert_other (m : Memory α) (a b : Nat) (v : α) (h : b ≠ a) :
    Memory.find (Memory.insert m a v) b = Memory.find m b := by
  induction m with
  | nil => simp [Memory.insert, Memory.find, Ne.symm h]
  | cons e m ih =>
    obtain ⟨c, w⟩ := e
    simp only [Memory.insert]
    split
    · simp [Memory.find, Ne.symm h]
    · simp [Memory.find, ih]

/-- Reading after a write: the value written (`none` when it is what an unlisted address reads as) at its address,
the old value at every other. -/
theorem Memory.find_write [DecidableEq α] (blank : Option α) (m : Memory α) (a b : Nat) (v : α) :
    Memory.find (Memory.write blank m a v) b =
      if b = a then (if blank = some v then none else some v) else Memory.find m b := by
  unfold Memory.write
  by_cases hv : blank = some v
  · simp [hv, Memory.find_erase]
  · by_cases hb : b = a
    · subst hb
      simp [hv, Memory.find_insert_same, Memory.find_erase]
    · simp [hv, hb, Memory.find_insert_other, Memory.find_erase]

/-- Reading after a write, an unlisted address reading as the blank value. -/
theorem Memory.read_write [DecidableEq α] (d : α) (m : Memory α) (a b : Nat) (v : α) :
    (Memory.find (Memory.write (some d) m a v) b).getD d = if b = a then v else (Memory.find m b).getD d := by
  rw [Memory.find_write]
  by_cases hb : b = a
  · by_cases hv : d = v <;> simp [hb, hv]
  · simp [hb]

theorem Memory.rising_mono {top low low' : Nat} {m : Memory α} (h : Memory.rising top low m = true) (hl : low' ≤ low) :
    Memory.rising top low' m = true := by
  cases m with
  | nil => rfl
  | cons e m =>
    obtain ⟨c, w⟩ := e
    simp only [Memory.rising, Bool.and_eq_true, decide_eq_true_eq] at h ⊢
    exact ⟨⟨by omega, h.1.2⟩, h.2⟩

theorem Memory.rising_erase {top low : Nat} {m : Memory α} (a : Nat) (h : Memory.rising top low m = true) :
    Memory.rising top low (Memory.erase m a) = true := by
  induction m generalizing low with
  | nil => rfl
  | cons e m ih =>
    obtain ⟨c, w⟩ := e
    simp only [Memory.rising, Bool.and_eq_true, decide_eq_true_eq] at h
    simp only [Memory.erase]
    split
    · exact Memory.rising_mono (ih h.2) (by omega)
    · simp only [Memory.rising, Bool.and_eq_true, decide_eq_true_eq]
      exact ⟨h.1, ih h.2⟩

theorem Memory.rising_insert {top low : Nat} {m : Memory α} {a : Nat} (v : α) (h : Memory.rising top low m = true)
    (hf : Memory.find m a = none) (hl : low ≤ a) (ht : a < top) :
    Memory.rising top low (Memory.insert m a v) = true := by
  induction m generalizing low with
  | nil => simp [Memory.insert, Memory.rising, hl, ht]
  | cons e m ih =>
    obtain ⟨c, w⟩ := e
    simp only [Memory.rising, Bool.and_eq_true, decide_eq_true_eq] at h
    simp only [Memory.find] at hf
    split at hf
    · cases hf
    · rename_i hca
      simp only [Memory.insert]
      split
      · simp only [Memory.rising, Bool.and_eq_true, decide_eq_true_eq]
        exact ⟨⟨hl, ht⟩, ⟨by omega, h.1.2⟩, h.2⟩
      · simp only [Memory.rising, Bool.and_eq_true, decide_eq_true_eq]
        exact ⟨h.1, ih h.2 hf (by omega)⟩

theorem Memory.mem_erase {m : Memory α} {a : Nat} {e : Nat × α} (h : e ∈ Memory.erase m a) : e ∈ m := by
  induction m with
  | nil => exact h
  | cons f m ih =>
    simp only [Memory.erase] at h
    split at h
    · exact List.mem_cons_of_mem _ (ih h)
    · rcases List.mem_cons.mp h with h | h
      · exact h ▸ List.mem_cons_self
      · exact List.mem_cons_of_mem _ (ih h)

theorem Memory.mem_insert {m : Memory α} {a : Nat} {v : α} {e : Nat × α} (h : e ∈ Memory.insert m a v) :
    e = (a, v) ∨ e ∈ m := by
  induction m with
  | nil => simpa [Memory.insert] using h
  | cons f m ih =>
    simp only [Memory.insert] at h
    split at h
    · simpa using h
    · rcases List.mem_cons.mp h with h | h
      · exact .inr (h ▸ List.mem_cons_self)
      · exact (ih h).imp id (List.mem_cons_of_mem _)

/-- What a write lists: its own entry, or an old one. -/
theorem Memory.mem_write [DecidableEq α] {blank : Option α} {m : Memory α} {a : Nat} {v : α} {e : Nat × α}
    (h : e ∈ Memory.write blank m a v) : (e = (a, v) ∧ blank ≠ some v) ∨ e ∈ m := by
  unfold Memory.write at h
  split at h
  · exact .inr (Memory.mem_erase h)
  · rename_i hv
    exact (Memory.mem_insert h).imp (⟨·, hv⟩) Memory.mem_erase

/-- A write keeps the canonical form. -/
theorem Memory.wf_write [DecidableEq α] {top : Nat} {blank : Option α} {m : Memory α} {a : Nat} (v : α)
    (h : Memory.wf top blank m = true) (ha : a < top) : Memory.wf top blank (Memory.write blank m a v) = true := by
  simp only [Memory.wf, Bool.and_eq_true, List.all_eq_true, decide_eq_true_eq] at h ⊢
  refine ⟨?_, fun e he => ?_⟩
  · unfold Memory.write
    split
    · exact Memory.rising_erase a h.1
    · exact Memory.rising_insert v (Memory.rising_erase a h.1) (by simp [Memory.find_erase]) (Nat.zero_le a) ha
  · rcases Memory.mem_write he with ⟨rfl, hv⟩ | he
    · exact hv
    · exact h.2 e he

/-- Reset's memories are canonical: nothing is listed. -/
theorem Memory.wf_nil [DecidableEq α] (top : Nat) (blank : Option α) : Memory.wf top blank ([] : Memory α) = true := rfl

end Sys2Proof.Machine
end

