-- ==== Sys2Proof/Laws/State.lean ====
section
/-! SUPPORT. What each named update of the state leaves unchanged, and what it sets: one lemma per field and update,
true by `rfl`, so that no proof unfolds a record update. After them, the same for the updates that may add an
event. -/

namespace Sys2Proof.Machine

@[simp] theorem State.emit_params (s : State) (e : Event) : (s.emit e).params = s.params := rfl
@[simp] theorem State.emit_regs (s : State) (e : Event) : (s.emit e).regs = s.regs := rfl
@[simp] theorem State.emit_irqFlags (s : State) (e : Event) : (s.emit e).irqFlags = s.irqFlags := rfl
@[simp] theorem State.emit_cursor (s : State) (e : Event) : (s.emit e).cursor = s.cursor := rfl
@[simp] theorem State.emit_display (s : State) (e : Event) : (s.emit e).display = s.display := rfl
@[simp] theorem State.emit_refreshCounter (s : State) (e : Event) : (s.emit e).refreshCounter = s.refreshCounter := rfl
@[simp] theorem State.emit_lines (s : State) (e : Event) : (s.emit e).lines = s.lines := rfl
@[simp] theorem State.emit_sprites (s : State) (e : Event) : (s.emit e).sprites = s.sprites := rfl
@[simp] theorem State.emit_collision (s : State) (e : Event) : (s.emit e).collision = s.collision := rfl
@[simp] theorem State.emit_gfxLine (s : State) (e : Event) : (s.emit e).gfxLine = s.gfxLine := rfl
@[simp] theorem State.emit_border (s : State) (e : Event) : (s.emit e).border = s.border := rfl
@[simp] theorem State.emit_pen (s : State) (e : Event) : (s.emit e).pen = s.pen := rfl
@[simp] theorem State.emit_arbiter (s : State) (e : Event) : (s.emit e).arbiter = s.arbiter := rfl
@[simp] theorem State.emit_framebuffer (s : State) (e : Event) : (s.emit e).framebuffer = s.framebuffer := rfl
@[simp] theorem State.emit_agenda (s : State) (e : Event) : (s.emit e).agenda = s.agenda := rfl
@[simp] theorem State.emit_requests (s : State) (e : Event) : (s.emit e).env.requests = s.env.requests := rfl
@[simp] theorem State.emit_penButton (s : State) (e : Event) : (s.emit e).env.penButton = s.env.penButton := rfl
@[simp] theorem State.emit_penX (s : State) (e : Event) : (s.emit e).env.penX = s.env.penX := rfl
@[simp] theorem State.emit_penY (s : State) (e : Event) : (s.emit e).env.penY = s.env.penY := rfl
@[simp] theorem State.emit_videoMemory (s : State) (e : Event) : (s.emit e).env.videoMemory = s.env.videoMemory := rfl
@[simp] theorem State.emit_colourMemory (s : State) (e : Event) : (s.emit e).env.colourMemory = s.env.colourMemory := rfl
@[simp] theorem State.emit_busReads (s : State) (e : Event) : (s.emit e).env.busReads = s.env.busReads := rfl
@[simp] theorem State.emit_events (s : State) (e : Event) :
    (s.emit e).env.events = (s.cursor.globalCycleCounter, e) :: s.env.events := rfl
@[simp] theorem State.emit_portOut (s : State) (e : Event) : (s.emit e).env.portOut = s.env.portOut := rfl
@[simp] theorem State.emit_reg (s : State) (e : Event) (c : Nat) : (s.emit e).reg c = s.reg c := rfl

@[simp] theorem State.setReg_params (s : State) (a : Nat) (v : Byte) : (s.setReg a v).params = s.params := rfl
@[simp] theorem State.setReg_regs (s : State) (a : Nat) (v : Byte) : (s.setReg a v).regs = s.regs.setIfInBounds a v := rfl
@[simp] theorem State.setReg_irqFlags (s : State) (a : Nat) (v : Byte) : (s.setReg a v).irqFlags = s.irqFlags := rfl
@[simp] theorem State.setReg_cursor (s : State) (a : Nat) (v : Byte) : (s.setReg a v).cursor = s.cursor := rfl
@[simp] theorem State.setReg_display (s : State) (a : Nat) (v : Byte) : (s.setReg a v).display = s.display := rfl
@[simp] theorem State.setReg_refreshCounter (s : State) (a : Nat) (v : Byte) : (s.setReg a v).refreshCounter = s.refreshCounter := rfl
@[simp] theorem State.setReg_lines (s : State) (a : Nat) (v : Byte) : (s.setReg a v).lines = s.lines := rfl
@[simp] theorem State.setReg_sprites (s : State) (a : Nat) (v : Byte) : (s.setReg a v).sprites = s.sprites := rfl
@[simp] theorem State.setReg_collision (s : State) (a : Nat) (v : Byte) : (s.setReg a v).collision = s.collision := rfl
@[simp] theorem State.setReg_gfxLine (s : State) (a : Nat) (v : Byte) : (s.setReg a v).gfxLine = s.gfxLine := rfl
@[simp] theorem State.setReg_border (s : State) (a : Nat) (v : Byte) : (s.setReg a v).border = s.border := rfl
@[simp] theorem State.setReg_pen (s : State) (a : Nat) (v : Byte) : (s.setReg a v).pen = s.pen := rfl
@[simp] theorem State.setReg_arbiter (s : State) (a : Nat) (v : Byte) : (s.setReg a v).arbiter = s.arbiter := rfl
@[simp] theorem State.setReg_framebuffer (s : State) (a : Nat) (v : Byte) : (s.setReg a v).framebuffer = s.framebuffer := rfl
@[simp] theorem State.setReg_agenda (s : State) (a : Nat) (v : Byte) : (s.setReg a v).agenda = s.agenda := rfl
@[simp] theorem State.setReg_env (s : State) (a : Nat) (v : Byte) : (s.setReg a v).env = s.env := rfl

@[simp] theorem State.countRead_params (s : State) : (s.countRead).params = s.params := rfl
@[simp] theorem State.countRead_regs (s : State) : (s.countRead).regs = s.regs := rfl
@[simp] theorem State.countRead_irqFlags (s : State) : (s.countRead).irqFlags = s.irqFlags := rfl
@[simp] theorem State.countRead_cursor (s : State) : (s.countRead).cursor = s.cursor := rfl
@[simp] theorem State.countRead_display (s : State) : (s.countRead).display = s.display := rfl
@[simp] theorem State.countRead_refreshCounter (s : State) : (s.countRead).refreshCounter = s.refreshCounter := rfl
@[simp] theorem State.countRead_lines (s : State) : (s.countRead).lines = s.lines := rfl
@[simp] theorem State.countRead_sprites (s : State) : (s.countRead).sprites = s.sprites := rfl
@[simp] theorem State.countRead_collision (s : State) : (s.countRead).collision = s.collision := rfl
@[simp] theorem State.countRead_gfxLine (s : State) : (s.countRead).gfxLine = s.gfxLine := rfl
@[simp] theorem State.countRead_border (s : State) : (s.countRead).border = s.border := rfl
@[simp] theorem State.countRead_pen (s : State) : (s.countRead).pen = s.pen := rfl
@[simp] theorem State.countRead_arbiter (s : State) : (s.countRead).arbiter = s.arbiter := rfl
@[simp] theorem State.countRead_framebuffer (s : State) : (s.countRead).framebuffer = s.framebuffer := rfl
@[simp] theorem State.countRead_agenda (s : State) : (s.countRead).agenda = s.agenda := rfl
@[simp] theorem State.countRead_requests (s : State) : (s.countRead).env.requests = s.env.requests := rfl
@[simp] theorem State.countRead_penButton (s : State) : (s.countRead).env.penButton = s.env.penButton := rfl
@[simp] theorem State.countRead_penX (s : State) : (s.countRead).env.penX = s.env.penX := rfl
@[simp] theorem State.countRead_penY (s : State) : (s.countRead).env.penY = s.env.penY := rfl
@[simp] theorem State.countRead_videoMemory (s : State) : (s.countRead).env.videoMemory = s.env.videoMemory := rfl
@[simp] theorem State.countRead_colourMemory (s : State) : (s.countRead).env.colourMemory = s.env.colourMemory := rfl
@[simp] theorem State.countRead_busReads (s : State) :
    (s.countRead).env.busReads = s.env.busReads + 1 := rfl
@[simp] theorem State.countRead_events (s : State) : (s.countRead).env.events = s.env.events := rfl
@[simp] theorem State.countRead_portOut (s : State) : (s.countRead).env.portOut = s.env.portOut := rfl
@[simp] theorem State.countRead_reg (s : State) (c : Nat) : (s.countRead).reg c = s.reg c := rfl

@[simp] theorem State.afterMemRead_params (s : State) (a : MemAddr) : (s.afterMemRead a).params = s.params := rfl
@[simp] theorem State.afterMemRead_regs (s : State) (a : MemAddr) : (s.afterMemRead a).regs = s.regs := rfl
@[simp] theorem State.afterMemRead_irqFlags (s : State) (a : MemAddr) : (s.afterMemRead a).irqFlags = s.irqFlags := rfl
@[simp] theorem State.afterMemRead_cursor (s : State) (a : MemAddr) : (s.afterMemRead a).cursor = s.cursor := rfl
@[simp] theorem State.afterMemRead_display (s : State) (a : MemAddr) : (s.afterMemRead a).display = s.display := rfl
@[simp] theorem State.afterMemRead_refreshCounter (s : State) (a : MemAddr) : (s.afterMemRead a).refreshCounter = s.refreshCounter := rfl
@[simp] theorem State.afterMemRead_lines (s : State) (a : MemAddr) : (s.afterMemRead a).lines = s.lines := rfl
@[simp] theorem State.afterMemRead_sprites (s : State) (a : MemAddr) : (s.afterMemRead a).sprites = s.sprites := rfl
@[simp] theorem State.afterMemRead_collision (s : State) (a : MemAddr) : (s.afterMemRead a).collision = s.collision := rfl
@[simp] theorem State.afterMemRead_gfxLine (s : State) (a : MemAddr) : (s.afterMemRead a).gfxLine = s.gfxLine := rfl
@[simp] theorem State.afterMemRead_border (s : State) (a : MemAddr) : (s.afterMemRead a).border = s.border := rfl
@[simp] theorem State.afterMemRead_pen (s : State) (a : MemAddr) : (s.afterMemRead a).pen = s.pen := rfl
@[simp] theorem State.afterMemRead_arbiter (s : State) (a : MemAddr) : (s.afterMemRead a).arbiter = s.arbiter := rfl
@[simp] theorem State.afterMemRead_framebuffer (s : State) (a : MemAddr) : (s.afterMemRead a).framebuffer = s.framebuffer := rfl
@[simp] theorem State.afterMemRead_agenda (s : State) (a : MemAddr) : (s.afterMemRead a).agenda = s.agenda := rfl
@[simp] theorem State.afterMemRead_requests (s : State) (a : MemAddr) : (s.afterMemRead a).env.requests = s.env.requests := rfl
@[simp] theorem State.afterMemRead_penButton (s : State) (a : MemAddr) : (s.afterMemRead a).env.penButton = s.env.penButton := rfl
@[simp] theorem State.afterMemRead_penX (s : State) (a : MemAddr) : (s.afterMemRead a).env.penX = s.env.penX := rfl
@[simp] theorem State.afterMemRead_penY (s : State) (a : MemAddr) : (s.afterMemRead a).env.penY = s.env.penY := rfl
@[simp] theorem State.afterMemRead_videoMemory (s : State) (a : MemAddr) : (s.afterMemRead a).env.videoMemory = s.env.videoMemory := rfl
@[simp] theorem State.afterMemRead_colourMemory (s : State) (a : MemAddr) : (s.afterMemRead a).env.colourMemory = s.env.colourMemory := rfl
@[simp] theorem State.afterMemRead_busReads (s : State) (a : MemAddr) :
    (s.afterMemRead a).env.busReads = s.env.busReads + 1 := rfl
@[simp] theorem State.afterMemRead_events (s : State) (a : MemAddr) :
    (s.afterMemRead a).env.events = (s.cursor.globalCycleCounter, .memRead a (s.memAnswer a)) :: s.env.events := rfl
@[simp] theorem State.afterMemRead_portOut (s : State) (a : MemAddr) : (s.afterMemRead a).env.portOut = s.env.portOut := rfl
@[simp] theorem State.afterMemRead_reg (s : State) (a : MemAddr) (c : Nat) : (s.afterMemRead a).reg c = s.reg c := rfl

@[simp] theorem State.afterColRead_params (s : State) (a : ColAddr) : (s.afterColRead a).params = s.params := rfl
@[simp] theorem State.afterColRead_regs (s : State) (a : ColAddr) : (s.afterColRead a).regs = s.regs := rfl
@[simp] theorem State.afterColRead_irqFlags (s : State) (a : ColAddr) : (s.afterColRead a).irqFlags = s.irqFlags := rfl
@[simp] theorem State.afterColRead_cursor (s : State) (a : ColAddr) : (s.afterColRead a).cursor = s.cursor := rfl
@[simp] theorem State.afterColRead_display (s : State) (a : ColAddr) : (s.afterColRead a).display = s.display := rfl
@[simp] theorem State.afterColRead_refreshCounter (s : State) (a : ColAddr) : (s.afterColRead a).refreshCounter = s.refreshCounter := rfl
@[simp] theorem State.afterColRead_lines (s : State) (a : ColAddr) : (s.afterColRead a).lines = s.lines := rfl
@[simp] theorem State.afterColRead_sprites (s : State) (a : ColAddr) : (s.afterColRead a).sprites = s.sprites := rfl
@[simp] theorem State.afterColRead_collision (s : State) (a : ColAddr) : (s.afterColRead a).collision = s.collision := rfl
@[simp] theorem State.afterColRead_gfxLine (s : State) (a : ColAddr) : (s.afterColRead a).gfxLine = s.gfxLine := rfl
@[simp] theorem State.afterColRead_border (s : State) (a : ColAddr) : (s.afterColRead a).border = s.border := rfl
@[simp] theorem State.afterColRead_pen (s : State) (a : ColAddr) : (s.afterColRead a).pen = s.pen := rfl
@[simp] theorem State.afterColRead_arbiter (s : State) (a : ColAddr) : (s.afterColRead a).arbiter = s.arbiter := rfl
@[simp] theorem State.afterColRead_framebuffer (s : State) (a : ColAddr) : (s.afterColRead a).framebuffer = s.framebuffer := rfl
@[simp] theorem State.afterColRead_agenda (s : State) (a : ColAddr) : (s.afterColRead a).agenda = s.agenda := rfl
@[simp] theorem State.afterColRead_requests (s : State) (a : ColAddr) : (s.afterColRead a).env.requests = s.env.requests := rfl
@[simp] theorem State.afterColRead_penButton (s : State) (a : ColAddr) : (s.afterColRead a).env.penButton = s.env.penButton := rfl
@[simp] theorem State.afterColRead_penX (s : State) (a : ColAddr) : (s.afterColRead a).env.penX = s.env.penX := rfl
@[simp] theorem State.afterColRead_penY (s : State) (a : ColAddr) : (s.afterColRead a).env.penY = s.env.penY := rfl
@[simp] theorem State.afterColRead_videoMemory (s : State) (a : ColAddr) : (s.afterColRead a).env.videoMemory = s.env.videoMemory := rfl
@[simp] theorem State.afterColRead_colourMemory (s : State) (a : ColAddr) : (s.afterColRead a).env.colourMemory = s.env.colourMemory := rfl
@[simp] theorem State.afterColRead_busReads (s : State) (a : ColAddr) :
    (s.afterColRead a).env.busReads = s.env.busReads + 1 := rfl
@[simp] theorem State.afterColRead_events (s : State) (a : ColAddr) :
    (s.afterColRead a).env.events = (s.cursor.globalCycleCounter, .colRead a (s.colAnswer a)) :: s.env.events := rfl
@[simp] theorem State.afterColRead_portOut (s : State) (a : ColAddr) : (s.afterColRead a).env.portOut = s.env.portOut := rfl
@[simp] theorem State.afterColRead_reg (s : State) (a : ColAddr) (c : Nat) : (s.afterColRead a).reg c = s.reg c := rfl

@[simp] theorem State.idleRead_params (s : State) : (s.idleRead).params = s.params := rfl
@[simp] theorem State.idleRead_regs (s : State) : (s.idleRead).regs = s.regs := rfl
@[simp] theorem State.idleRead_irqFlags (s : State) : (s.idleRead).irqFlags = s.irqFlags := rfl
@[simp] theorem State.idleRead_cursor (s : State) : (s.idleRead).cursor = s.cursor := rfl
@[simp] theorem State.idleRead_display (s : State) : (s.idleRead).display = s.display := rfl
@[simp] theorem State.idleRead_refreshCounter (s : State) : (s.idleRead).refreshCounter = s.refreshCounter := rfl
@[simp] theorem State.idleRead_lines (s : State) : (s.idleRead).lines = s.lines := rfl
@[simp] theorem State.idleRead_sprites (s : State) : (s.idleRead).sprites = s.sprites := rfl
@[simp] theorem State.idleRead_collision (s : State) : (s.idleRead).collision = s.collision := rfl
@[simp] theorem State.idleRead_gfxLine (s : State) : (s.idleRead).gfxLine = s.gfxLine := rfl
@[simp] theorem State.idleRead_border (s : State) : (s.idleRead).border = s.border := rfl
@[simp] theorem State.idleRead_pen (s : State) : (s.idleRead).pen = s.pen := rfl
@[simp] theorem State.idleRead_arbiter (s : State) : (s.idleRead).arbiter = s.arbiter := rfl
@[simp] theorem State.idleRead_framebuffer (s : State) : (s.idleRead).framebuffer = s.framebuffer := rfl
@[simp] theorem State.idleRead_agenda (s : State) : (s.idleRead).agenda = s.agenda := rfl
@[simp] theorem State.idleRead_requests (s : State) : (s.idleRead).env.requests = s.env.requests := rfl
@[simp] theorem State.idleRead_penButton (s : State) : (s.idleRead).env.penButton = s.env.penButton := rfl
@[simp] theorem State.idleRead_penX (s : State) : (s.idleRead).env.penX = s.env.penX := rfl
@[simp] theorem State.idleRead_penY (s : State) : (s.idleRead).env.penY = s.env.penY := rfl
@[simp] theorem State.idleRead_videoMemory (s : State) : (s.idleRead).env.videoMemory = s.env.videoMemory := rfl
@[simp] theorem State.idleRead_colourMemory (s : State) : (s.idleRead).env.colourMemory = s.env.colourMemory := rfl
@[simp] theorem State.idleRead_busReads (s : State) :
    (s.idleRead).env.busReads = s.env.busReads + 1 := rfl
@[simp] theorem State.idleRead_events (s : State) :
    (s.idleRead).env.events = (s.cursor.globalCycleCounter, .memRead 0x3FFF (s.memAnswer 0x3FFF)) :: s.env.events := rfl
@[simp] theorem State.idleRead_portOut (s : State) : (s.idleRead).env.portOut = s.env.portOut := rfl
@[simp] theorem State.idleRead_reg (s : State) (c : Nat) : (s.idleRead).reg c = s.reg c := rfl

@[simp] theorem State.portReturn_params (s : State) (v : Byte) : (s.portReturn v).params = s.params := rfl
@[simp] theorem State.portReturn_regs (s : State) (v : Byte) : (s.portReturn v).regs = s.regs := rfl
@[simp] theorem State.portReturn_irqFlags (s : State) (v : Byte) : (s.portReturn v).irqFlags = s.irqFlags := rfl
@[simp] theorem State.portReturn_cursor (s : State) (v : Byte) : (s.portReturn v).cursor = s.cursor := rfl
@[simp] theorem State.portReturn_display (s : State) (v : Byte) : (s.portReturn v).display = s.display := rfl
@[simp] theorem State.portReturn_refreshCounter (s : State) (v : Byte) : (s.portReturn v).refreshCounter = s.refreshCounter := rfl
@[simp] theorem State.portReturn_lines (s : State) (v : Byte) : (s.portReturn v).lines = s.lines := rfl
@[simp] theorem State.portReturn_sprites (s : State) (v : Byte) : (s.portReturn v).sprites = s.sprites := rfl
@[simp] theorem State.portReturn_collision (s : State) (v : Byte) : (s.portReturn v).collision = s.collision := rfl
@[simp] theorem State.portReturn_gfxLine (s : State) (v : Byte) : (s.portReturn v).gfxLine = s.gfxLine := rfl
@[simp] theorem State.portReturn_border (s : State) (v : Byte) : (s.portReturn v).border = s.border := rfl
@[simp] theorem State.portReturn_pen (s : State) (v : Byte) : (s.portReturn v).pen = s.pen := rfl
@[simp] theorem State.portReturn_arbiter (s : State) (v : Byte) : (s.portReturn v).arbiter = s.arbiter := rfl
@[simp] theorem State.portReturn_framebuffer (s : State) (v : Byte) : (s.portReturn v).framebuffer = s.framebuffer := rfl
@[simp] theorem State.portReturn_agenda (s : State) (v : Byte) : (s.portReturn v).agenda = s.agenda := rfl
@[simp] theorem State.portReturn_requests (s : State) (v : Byte) : (s.portReturn v).env.requests = s.env.requests := rfl
@[simp] theorem State.portReturn_penButton (s : State) (v : Byte) : (s.portReturn v).env.penButton = s.env.penButton := rfl
@[simp] theorem State.portReturn_penX (s : State) (v : Byte) : (s.portReturn v).env.penX = s.env.penX := rfl
@[simp] theorem State.portReturn_penY (s : State) (v : Byte) : (s.portReturn v).env.penY = s.env.penY := rfl
@[simp] theorem State.portReturn_videoMemory (s : State) (v : Byte) : (s.portReturn v).env.videoMemory = s.env.videoMemory := rfl
@[simp] theorem State.portReturn_colourMemory (s : State) (v : Byte) : (s.portReturn v).env.colourMemory = s.env.colourMemory := rfl
@[simp] theorem State.portReturn_busReads (s : State) (v : Byte) : (s.portReturn v).env.busReads = s.env.busReads := rfl
@[simp] theorem State.portReturn_events (s : State) (v : Byte) : (s.portReturn v).env.events = s.env.events := rfl
@[simp] theorem State.portReturn_portOut (s : State) (v : Byte) :
    (s.portReturn v).env.portOut = some v := rfl
@[simp] theorem State.portReturn_reg (s : State) (v : Byte) (c : Nat) : (s.portReturn v).reg c = s.reg c := rfl

@[simp] theorem State.mapSprites_params (s : State) (f : Fin 8 → SpriteUnit → SpriteUnit) : (s.mapSprites f).params = s.params := rfl
@[simp] theorem State.mapSprites_regs (s : State) (f : Fin 8 → SpriteUnit → SpriteUnit) : (s.mapSprites f).regs = s.regs := rfl
@[simp] theorem State.mapSprites_irqFlags (s : State) (f : Fin 8 → SpriteUnit → SpriteUnit) : (s.mapSprites f).irqFlags = s.irqFlags := rfl
@[simp] theorem State.mapSprites_cursor (s : State) (f : Fin 8 → SpriteUnit → SpriteUnit) : (s.mapSprites f).cursor = s.cursor := rfl
@[simp] theorem State.mapSprites_display (s : State) (f : Fin 8 → SpriteUnit → SpriteUnit) : (s.mapSprites f).display = s.display := rfl
@[simp] theorem State.mapSprites_refreshCounter (s : State) (f : Fin 8 → SpriteUnit → SpriteUnit) : (s.mapSprites f).refreshCounter = s.refreshCounter := rfl
@[simp] theorem State.mapSprites_lines (s : State) (f : Fin 8 → SpriteUnit → SpriteUnit) : (s.mapSprites f).lines = s.lines := rfl
@[simp] theorem State.mapSprites_sprites (s : State) (f : Fin 8 → SpriteUnit → SpriteUnit) : (s.mapSprites f).sprites = Vector.ofFn fun i => f i s.sprites[i] := rfl
@[simp] theorem State.mapSprites_collision (s : State) (f : Fin 8 → SpriteUnit → SpriteUnit) : (s.mapSprites f).collision = s.collision := rfl
@[simp] theorem State.mapSprites_gfxLine (s : State) (f : Fin 8 → SpriteUnit → SpriteUnit) : (s.mapSprites f).gfxLine = s.gfxLine := rfl
@[simp] theorem State.mapSprites_border (s : State) (f : Fin 8 → SpriteUnit → SpriteUnit) : (s.mapSprites f).border = s.border := rfl
@[simp] theorem State.mapSprites_pen (s : State) (f : Fin 8 → SpriteUnit → SpriteUnit) : (s.mapSprites f).pen = s.pen := rfl
@[simp] theorem State.mapSprites_arbiter (s : State) (f : Fin 8 → SpriteUnit → SpriteUnit) : (s.mapSprites f).arbiter = s.arbiter := rfl
@[simp] theorem State.mapSprites_framebuffer (s : State) (f : Fin 8 → SpriteUnit → SpriteUnit) : (s.mapSprites f).framebuffer = s.framebuffer := rfl
@[simp] theorem State.mapSprites_agenda (s : State) (f : Fin 8 → SpriteUnit → SpriteUnit) : (s.mapSprites f).agenda = s.agenda := rfl
@[simp] theorem State.mapSprites_env (s : State) (f : Fin 8 → SpriteUnit → SpriteUnit) : (s.mapSprites f).env = s.env := rfl
@[simp] theorem State.mapSprites_reg (s : State) (f : Fin 8 → SpriteUnit → SpriteUnit) (c : Nat) : (s.mapSprites f).reg c = s.reg c := rfl

@[simp] theorem State.mapSprite_params (s : State) (i : Fin 8) (f : SpriteUnit → SpriteUnit) : (s.mapSprite i f).params = s.params := rfl
@[simp] theorem State.mapSprite_regs (s : State) (i : Fin 8) (f : SpriteUnit → SpriteUnit) : (s.mapSprite i f).regs = s.regs := rfl
@[simp] theorem State.mapSprite_irqFlags (s : State) (i : Fin 8) (f : SpriteUnit → SpriteUnit) : (s.mapSprite i f).irqFlags = s.irqFlags := rfl
@[simp] theorem State.mapSprite_cursor (s : State) (i : Fin 8) (f : SpriteUnit → SpriteUnit) : (s.mapSprite i f).cursor = s.cursor := rfl
@[simp] theorem State.mapSprite_display (s : State) (i : Fin 8) (f : SpriteUnit → SpriteUnit) : (s.mapSprite i f).display = s.display := rfl
@[simp] theorem State.mapSprite_refreshCounter (s : State) (i : Fin 8) (f : SpriteUnit → SpriteUnit) : (s.mapSprite i f).refreshCounter = s.refreshCounter := rfl
@[simp] theorem State.mapSprite_lines (s : State) (i : Fin 8) (f : SpriteUnit → SpriteUnit) : (s.mapSprite i f).lines = s.lines := rfl
@[simp] theorem State.mapSprite_sprites (s : State) (i : Fin 8) (f : SpriteUnit → SpriteUnit) : (s.mapSprite i f).sprites = s.sprites.set i (f s.sprites[i]) := rfl
@[simp] theorem State.mapSprite_collision (s : State) (i : Fin 8) (f : SpriteUnit → SpriteUnit) : (s.mapSprite i f).collision = s.collision := rfl
@[simp] theorem State.mapSprite_gfxLine (s : State) (i : Fin 8) (f : SpriteUnit → SpriteUnit) : (s.mapSprite i f).gfxLine = s.gfxLine := rfl
@[simp] theorem State.mapSprite_border (s : State) (i : Fin 8) (f : SpriteUnit → SpriteUnit) : (s.mapSprite i f).border = s.border := rfl
@[simp] theorem State.mapSprite_pen (s : State) (i : Fin 8) (f : SpriteUnit → SpriteUnit) : (s.mapSprite i f).pen = s.pen := rfl
@[simp] theorem State.mapSprite_arbiter (s : State) (i : Fin 8) (f : SpriteUnit → SpriteUnit) : (s.mapSprite i f).arbiter = s.arbiter := rfl
@[simp] theorem State.mapSprite_framebuffer (s : State) (i : Fin 8) (f : SpriteUnit → SpriteUnit) : (s.mapSprite i f).framebuffer = s.framebuffer := rfl
@[simp] theorem State.mapSprite_agenda (s : State) (i : Fin 8) (f : SpriteUnit → SpriteUnit) : (s.mapSprite i f).agenda = s.agenda := rfl
@[simp] theorem State.mapSprite_env (s : State) (i : Fin 8) (f : SpriteUnit → SpriteUnit) : (s.mapSprite i f).env = s.env := rfl
@[simp] theorem State.mapSprite_reg (s : State) (i : Fin 8) (f : SpriteUnit → SpriteUnit) (c : Nat) : (s.mapSprite i f).reg c = s.reg c := rfl

@[simp] theorem State.writeRow_params (s : State) (y : Nat) (row : List Nibble) : (s.writeRow y row).params = s.params := rfl
@[simp] theorem State.writeRow_regs (s : State) (y : Nat) (row : List Nibble) : (s.writeRow y row).regs = s.regs := rfl
@[simp] theorem State.writeRow_irqFlags (s : State) (y : Nat) (row : List Nibble) : (s.writeRow y row).irqFlags = s.irqFlags := rfl
@[simp] theorem State.writeRow_cursor (s : State) (y : Nat) (row : List Nibble) : (s.writeRow y row).cursor = s.cursor := rfl
@[simp] theorem State.writeRow_display (s : State) (y : Nat) (row : List Nibble) : (s.writeRow y row).display = s.display := rfl
@[simp] theorem State.writeRow_refreshCounter (s : State) (y : Nat) (row : List Nibble) : (s.writeRow y row).refreshCounter = s.refreshCounter := rfl
@[simp] theorem State.writeRow_lines (s : State) (y : Nat) (row : List Nibble) : (s.writeRow y row).lines = s.lines := rfl
@[simp] theorem State.writeRow_sprites (s : State) (y : Nat) (row : List Nibble) : (s.writeRow y row).sprites = s.sprites := rfl
@[simp] theorem State.writeRow_collision (s : State) (y : Nat) (row : List Nibble) : (s.writeRow y row).collision = s.collision := rfl
@[simp] theorem State.writeRow_gfxLine (s : State) (y : Nat) (row : List Nibble) : (s.writeRow y row).gfxLine = s.gfxLine := rfl
@[simp] theorem State.writeRow_border (s : State) (y : Nat) (row : List Nibble) : (s.writeRow y row).border = s.border := rfl
@[simp] theorem State.writeRow_pen (s : State) (y : Nat) (row : List Nibble) : (s.writeRow y row).pen = s.pen := rfl
@[simp] theorem State.writeRow_arbiter (s : State) (y : Nat) (row : List Nibble) : (s.writeRow y row).arbiter = s.arbiter := rfl
@[simp] theorem State.writeRow_framebuffer (s : State) (y : Nat) (row : List Nibble) : (s.writeRow y row).framebuffer = Memory.write (some (blankRow s.params)) s.framebuffer y row := rfl
@[simp] theorem State.writeRow_agenda (s : State) (y : Nat) (row : List Nibble) : (s.writeRow y row).agenda = s.agenda := rfl
@[simp] theorem State.writeRow_env (s : State) (y : Nat) (row : List Nibble) : (s.writeRow y row).env = s.env := rfl
@[simp] theorem State.writeRow_reg (s : State) (y : Nat) (row : List Nibble) (c : Nat) : (s.writeRow y row).reg c = s.reg c := rfl

@[simp] theorem State.borderSample_params (s : State) (k : Fin 5) : (s.borderSample k).params = s.params := rfl
@[simp] theorem State.borderSample_regs (s : State) (k : Fin 5) : (s.borderSample k).regs = s.regs := rfl
@[simp] theorem State.borderSample_irqFlags (s : State) (k : Fin 5) : (s.borderSample k).irqFlags = s.irqFlags := rfl
@[simp] theorem State.borderSample_cursor (s : State) (k : Fin 5) : (s.borderSample k).cursor = s.cursor := rfl
@[simp] theorem State.borderSample_display (s : State) (k : Fin 5) : (s.borderSample k).display = s.display := rfl
@[simp] theorem State.borderSample_refreshCounter (s : State) (k : Fin 5) : (s.borderSample k).refreshCounter = s.refreshCounter := rfl
@[simp] theorem State.borderSample_lines (s : State) (k : Fin 5) : (s.borderSample k).lines = s.lines := rfl
@[simp] theorem State.borderSample_sprites (s : State) (k : Fin 5) : (s.borderSample k).sprites = s.sprites := rfl
@[simp] theorem State.borderSample_collision (s : State) (k : Fin 5) : (s.borderSample k).collision = s.collision := rfl
@[simp] theorem State.borderSample_gfxLine (s : State) (k : Fin 5) : (s.borderSample k).gfxLine = s.gfxLine := rfl
@[simp] theorem State.borderSample_pen (s : State) (k : Fin 5) : (s.borderSample k).pen = s.pen := rfl
@[simp] theorem State.borderSample_arbiter (s : State) (k : Fin 5) : (s.borderSample k).arbiter = s.arbiter := rfl
@[simp] theorem State.borderSample_framebuffer (s : State) (k : Fin 5) : (s.borderSample k).framebuffer = s.framebuffer := rfl
@[simp] theorem State.borderSample_agenda (s : State) (k : Fin 5) : (s.borderSample k).agenda = s.agenda := rfl
@[simp] theorem State.borderSample_env (s : State) (k : Fin 5) : (s.borderSample k).env = s.env := rfl
@[simp] theorem State.borderSample_reg (s : State) (k : Fin 5) (c : Nat) : (s.borderSample k).reg c = s.reg c := rfl

@[simp] theorem State.frameWrap_params (s : State) : (s.frameWrap).params = s.params := rfl
@[simp] theorem State.frameWrap_regs (s : State) : (s.frameWrap).regs = s.regs := rfl
@[simp] theorem State.frameWrap_irqFlags (s : State) : (s.frameWrap).irqFlags = s.irqFlags := rfl
@[simp] theorem State.frameWrap_cursor (s : State) : (s.frameWrap).cursor = s.cursor := rfl
@[simp] theorem State.frameWrap_refreshCounter (s : State) : (s.frameWrap).refreshCounter = 0xFF := rfl
@[simp] theorem State.frameWrap_lines (s : State) : (s.frameWrap).lines = s.lines := rfl
@[simp] theorem State.frameWrap_sprites (s : State) : (s.frameWrap).sprites = s.sprites := rfl
@[simp] theorem State.frameWrap_collision (s : State) : (s.frameWrap).collision = s.collision := rfl
@[simp] theorem State.frameWrap_gfxLine (s : State) : (s.frameWrap).gfxLine = s.gfxLine := rfl
@[simp] theorem State.frameWrap_border (s : State) : (s.frameWrap).border = s.border := rfl
@[simp] theorem State.frameWrap_arbiter (s : State) : (s.frameWrap).arbiter = s.arbiter := rfl
@[simp] theorem State.frameWrap_framebuffer (s : State) : (s.frameWrap).framebuffer = s.framebuffer := rfl
@[simp] theorem State.frameWrap_agenda (s : State) : (s.frameWrap).agenda = s.agenda := rfl
@[simp] theorem State.frameWrap_env (s : State) : (s.frameWrap).env = s.env := rfl
@[simp] theorem State.frameWrap_reg (s : State) (c : Nat) : (s.frameWrap).reg c = s.reg c := rfl

@[simp] theorem State.reportIrq_params (s : State) (was : Bool) : (State.reportIrq was s).params = s.params := by unfold State.reportIrq; split <;> rfl
@[simp] theorem State.reportIrq_regs (s : State) (was : Bool) : (State.reportIrq was s).regs = s.regs := by unfold State.reportIrq; split <;> rfl
@[simp] theorem State.reportIrq_irqFlags (s : State) (was : Bool) : (State.reportIrq was s).irqFlags = s.irqFlags := by unfold State.reportIrq; split <;> rfl
@[simp] theorem State.reportIrq_cursor (s : State) (was : Bool) : (State.reportIrq was s).cursor = s.cursor := by unfold State.reportIrq; split <;> rfl
@[simp] theorem State.reportIrq_display (s : State) (was : Bool) : (State.reportIrq was s).display = s.display := by unfold State.reportIrq; split <;> rfl
@[simp] theorem State.reportIrq_refreshCounter (s : State) (was : Bool) : (State.reportIrq was s).refreshCounter = s.refreshCounter := by unfold State.reportIrq; split <;> rfl
@[simp] theorem State.reportIrq_lines (s : State) (was : Bool) : (State.reportIrq was s).lines = s.lines := by unfold State.reportIrq; split <;> rfl
@[simp] theorem State.reportIrq_sprites (s : State) (was : Bool) : (State.reportIrq was s).sprites = s.sprites := by unfold State.reportIrq; split <;> rfl
@[simp] theorem State.reportIrq_collision (s : State) (was : Bool) : (State.reportIrq was s).collision = s.collision := by unfold State.reportIrq; split <;> rfl
@[simp] theorem State.reportIrq_gfxLine (s : State) (was : Bool) : (State.reportIrq was s).gfxLine = s.gfxLine := by unfold State.reportIrq; split <;> rfl
@[simp] theorem State.reportIrq_border (s : State) (was : Bool) : (State.reportIrq was s).border = s.border := by unfold State.reportIrq; split <;> rfl
@[simp] theorem State.reportIrq_pen (s : State) (was : Bool) : (State.reportIrq was s).pen = s.pen := by unfold State.reportIrq; split <;> rfl
@[simp] theorem State.reportIrq_arbiter (s : State) (was : Bool) : (State.reportIrq was s).arbiter = s.arbiter := by unfold State.reportIrq; split <;> rfl
@[simp] theorem State.reportIrq_framebuffer (s : State) (was : Bool) : (State.reportIrq was s).framebuffer = s.framebuffer := by unfold State.reportIrq; split <;> rfl
@[simp] theorem State.reportIrq_agenda (s : State) (was : Bool) : (State.reportIrq was s).agenda = s.agenda := by unfold State.reportIrq; split <;> rfl
@[simp] theorem State.reportIrq_reg (s : State) (was : Bool) (c : Nat) : (State.reportIrq was s).reg c = s.reg c := by unfold State.reportIrq; split <;> rfl
@[simp] theorem State.reportIrq_requests (s : State) (was : Bool) : (State.reportIrq was s).env.requests = s.env.requests := by unfold State.reportIrq; split <;> rfl
@[simp] theorem State.reportIrq_penButton (s : State) (was : Bool) : (State.reportIrq was s).env.penButton = s.env.penButton := by unfold State.reportIrq; split <;> rfl
@[simp] theorem State.reportIrq_penX (s : State) (was : Bool) : (State.reportIrq was s).env.penX = s.env.penX := by unfold State.reportIrq; split <;> rfl
@[simp] theorem State.reportIrq_penY (s : State) (was : Bool) : (State.reportIrq was s).env.penY = s.env.penY := by unfold State.reportIrq; split <;> rfl
@[simp] theorem State.reportIrq_videoMemory (s : State) (was : Bool) : (State.reportIrq was s).env.videoMemory = s.env.videoMemory := by unfold State.reportIrq; split <;> rfl
@[simp] theorem State.reportIrq_colourMemory (s : State) (was : Bool) : (State.reportIrq was s).env.colourMemory = s.env.colourMemory := by unfold State.reportIrq; split <;> rfl
@[simp] theorem State.reportIrq_busReads (s : State) (was : Bool) : (State.reportIrq was s).env.busReads = s.env.busReads := by unfold State.reportIrq; split <;> rfl
@[simp] theorem State.reportIrq_portOut (s : State) (was : Bool) : (State.reportIrq was s).env.portOut = s.env.portOut := by unfold State.reportIrq; split <;> rfl

@[simp] theorem State.raiseIrq_params (s : State) (m : BitVec 4) : (s.raiseIrq m).params = s.params := by simp [State.raiseIrq]
@[simp] theorem State.raiseIrq_regs (s : State) (m : BitVec 4) : (s.raiseIrq m).regs = s.regs := by simp [State.raiseIrq]
@[simp] theorem State.raiseIrq_cursor (s : State) (m : BitVec 4) : (s.raiseIrq m).cursor = s.cursor := by simp [State.raiseIrq]
@[simp] theorem State.raiseIrq_display (s : State) (m : BitVec 4) : (s.raiseIrq m).display = s.display := by simp [State.raiseIrq]
@[simp] theorem State.raiseIrq_refreshCounter (s : State) (m : BitVec 4) : (s.raiseIrq m).refreshCounter = s.refreshCounter := by simp [State.raiseIrq]
@[simp] theorem State.raiseIrq_lines (s : State) (m : BitVec 4) : (s.raiseIrq m).lines = s.lines := by simp [State.raiseIrq]
@[simp] theorem State.raiseIrq_sprites (s : State) (m : BitVec 4) : (s.raiseIrq m).sprites = s.sprites := by simp [State.raiseIrq]
@[simp] theorem State.raiseIrq_collision (s : State) (m : BitVec 4) : (s.raiseIrq m).collision = s.collision := by simp [State.raiseIrq]
@[simp] theorem State.raiseIrq_gfxLine (s : State) (m : BitVec 4) : (s.raiseIrq m).gfxLine = s.gfxLine := by simp [State.raiseIrq]
@[simp] theorem State.raiseIrq_border (s : State) (m : BitVec 4) : (s.raiseIrq m).border = s.border := by simp [State.raiseIrq]
@[simp] theorem State.raiseIrq_pen (s : State) (m : BitVec 4) : (s.raiseIrq m).pen = s.pen := by simp [State.raiseIrq]
@[simp] theorem State.raiseIrq_arbiter (s : State) (m : BitVec 4) : (s.raiseIrq m).arbiter = s.arbiter := by simp [State.raiseIrq]
@[simp] theorem State.raiseIrq_framebuffer (s : State) (m : BitVec 4) : (s.raiseIrq m).framebuffer = s.framebuffer := by simp [State.raiseIrq]
@[simp] theorem State.raiseIrq_agenda (s : State) (m : BitVec 4) : (s.raiseIrq m).agenda = s.agenda := by simp [State.raiseIrq]
@[simp] theorem State.raiseIrq_reg (s : State) (m : BitVec 4) (c : Nat) : (s.raiseIrq m).reg c = s.reg c := by simp [State.reg]
@[simp] theorem State.raiseIrq_requests (s : State) (m : BitVec 4) : (s.raiseIrq m).env.requests = s.env.requests := by simp [State.raiseIrq]
@[simp] theorem State.raiseIrq_penButton (s : State) (m : BitVec 4) : (s.raiseIrq m).env.penButton = s.env.penButton := by simp [State.raiseIrq]
@[simp] theorem State.raiseIrq_penX (s : State) (m : BitVec 4) : (s.raiseIrq m).env.penX = s.env.penX := by simp [State.raiseIrq]
@[simp] theorem State.raiseIrq_penY (s : State) (m : BitVec 4) : (s.raiseIrq m).env.penY = s.env.penY := by simp [State.raiseIrq]
@[simp] theorem State.raiseIrq_videoMemory (s : State) (m : BitVec 4) : (s.raiseIrq m).env.videoMemory = s.env.videoMemory := by simp [State.raiseIrq]
@[simp] theorem State.raiseIrq_colourMemory (s : State) (m : BitVec 4) : (s.raiseIrq m).env.colourMemory = s.env.colourMemory := by simp [State.raiseIrq]
@[simp] theorem State.raiseIrq_busReads (s : State) (m : BitVec 4) : (s.raiseIrq m).env.busReads = s.env.busReads := by simp [State.raiseIrq]
@[simp] theorem State.raiseIrq_portOut (s : State) (m : BitVec 4) : (s.raiseIrq m).env.portOut = s.env.portOut := by simp [State.raiseIrq]

@[simp] theorem State.acknowledgeIrq_params (s : State) (m : BitVec 4) : (s.acknowledgeIrq m).params = s.params := by simp [State.acknowledgeIrq]
@[simp] theorem State.acknowledgeIrq_regs (s : State) (m : BitVec 4) : (s.acknowledgeIrq m).regs = s.regs := by simp [State.acknowledgeIrq]
@[simp] theorem State.acknowledgeIrq_cursor (s : State) (m : BitVec 4) : (s.acknowledgeIrq m).cursor = s.cursor := by simp [State.acknowledgeIrq]
@[simp] theorem State.acknowledgeIrq_display (s : State) (m : BitVec 4) : (s.acknowledgeIrq m).display = s.display := by simp [State.acknowledgeIrq]
@[simp] theorem State.acknowledgeIrq_refreshCounter (s : State) (m : BitVec 4) : (s.acknowledgeIrq m).refreshCounter = s.refreshCounter := by simp [State.acknowledgeIrq]
@[simp] theorem State.acknowledgeIrq_lines (s : State) (m : BitVec 4) : (s.acknowledgeIrq m).lines = s.lines := by simp [State.acknowledgeIrq]
@[simp] theorem State.acknowledgeIrq_sprites (s : State) (m : BitVec 4) : (s.acknowledgeIrq m).sprites = s.sprites := by simp [State.acknowledgeIrq]
@[simp] theorem State.acknowledgeIrq_collision (s : State) (m : BitVec 4) : (s.acknowledgeIrq m).collision = s.collision := by simp [State.acknowledgeIrq]
@[simp] theorem State.acknowledgeIrq_gfxLine (s : State) (m : BitVec 4) : (s.acknowledgeIrq m).gfxLine = s.gfxLine := by simp [State.acknowledgeIrq]
@[simp] theorem State.acknowledgeIrq_border (s : State) (m : BitVec 4) : (s.acknowledgeIrq m).border = s.border := by simp [State.acknowledgeIrq]
@[simp] theorem State.acknowledgeIrq_pen (s : State) (m : BitVec 4) : (s.acknowledgeIrq m).pen = s.pen := by simp [State.acknowledgeIrq]
@[simp] theorem State.acknowledgeIrq_arbiter (s : State) (m : BitVec 4) : (s.acknowledgeIrq m).arbiter = s.arbiter := by simp [State.acknowledgeIrq]
@[simp] theorem State.acknowledgeIrq_framebuffer (s : State) (m : BitVec 4) : (s.acknowledgeIrq m).framebuffer = s.framebuffer := by simp [State.acknowledgeIrq]
@[simp] theorem State.acknowledgeIrq_agenda (s : State) (m : BitVec 4) : (s.acknowledgeIrq m).agenda = s.agenda := by simp [State.acknowledgeIrq]
@[simp] theorem State.acknowledgeIrq_reg (s : State) (m : BitVec 4) (c : Nat) : (s.acknowledgeIrq m).reg c = s.reg c := by simp [State.reg]
@[simp] theorem State.acknowledgeIrq_requests (s : State) (m : BitVec 4) : (s.acknowledgeIrq m).env.requests = s.env.requests := by simp [State.acknowledgeIrq]
@[simp] theorem State.acknowledgeIrq_penButton (s : State) (m : BitVec 4) : (s.acknowledgeIrq m).env.penButton = s.env.penButton := by simp [State.acknowledgeIrq]
@[simp] theorem State.acknowledgeIrq_penX (s : State) (m : BitVec 4) : (s.acknowledgeIrq m).env.penX = s.env.penX := by simp [State.acknowledgeIrq]
@[simp] theorem State.acknowledgeIrq_penY (s : State) (m : BitVec 4) : (s.acknowledgeIrq m).env.penY = s.env.penY := by simp [State.acknowledgeIrq]
@[simp] theorem State.acknowledgeIrq_videoMemory (s : State) (m : BitVec 4) : (s.acknowledgeIrq m).env.videoMemory = s.env.videoMemory := by simp [State.acknowledgeIrq]
@[simp] theorem State.acknowledgeIrq_colourMemory (s : State) (m : BitVec 4) : (s.acknowledgeIrq m).env.colourMemory = s.env.colourMemory := by simp [State.acknowledgeIrq]
@[simp] theorem State.acknowledgeIrq_busReads (s : State) (m : BitVec 4) : (s.acknowledgeIrq m).env.busReads = s.env.busReads := by simp [State.acknowledgeIrq]
@[simp] theorem State.acknowledgeIrq_portOut (s : State) (m : BitVec 4) : (s.acknowledgeIrq m).env.portOut = s.env.portOut := by simp [State.acknowledgeIrq]

@[simp] theorem State.raiseIrq_irqFlags (s : State) (m : BitVec 4) : (s.raiseIrq m).irqFlags = s.irqFlags ||| m := by
  simp [State.raiseIrq]

@[simp] theorem State.acknowledgeIrq_irqFlags (s : State) (m : BitVec 4) :
    (s.acknowledgeIrq m).irqFlags = s.irqFlags &&& ~~~m := by
  simp [State.acknowledgeIrq]

end Sys2Proof.Machine
end

