-- ==== Sys2Proof/Laws/Ops.lean ====
section
/-! SUPPORT. One lemma per shared operation that says once what it can do: register storage, the interrupt output,
the collision latch, the row buffers, the framebuffer row, the sprite units. -/

namespace Sys2Proof.Machine

/-- Reading a register after a store: the byte stored at its address, if it has storage, the old byte elsewhere. -/
theorem State.reg_setReg (s : State) (a b : Nat) (v : Byte) :
    (s.setReg a v).reg b = if a = b ∧ b < 47 then v else s.reg b := by
  simp only [State.reg, State.setReg_regs, Vector.getElem?_setIfInBounds]
  by_cases h : a = b
  · subst h
    by_cases h2 : a < 47
    · simp [h2]
    · simp [h2]
  · simp [h]

@[simp] theorem State.reg_setReg_same (s : State) (a : Nat) (v : Byte) (h : a < 47) : (s.setReg a v).reg a = v := by
  simp [State.reg_setReg, h]

theorem State.reg_setReg_other (s : State) (a b : Nat) (v : Byte) (h : a ≠ b) : (s.setReg a v).reg b = s.reg b := by
  simp [State.reg_setReg, h]

/-- A stored byte is the element of the bank at its address. -/
theorem State.reg_eq_getElem (s : State) (a : Nat) (h : a < 47) : s.reg a = s.regs[a] := by
  simp [State.reg, h]

/-- The interrupt line depends on the flags and the mask register alone. -/
theorem State.irqLine_congr {s t : State} (hf : t.irqFlags = s.irqFlags) (hr : t.reg 0x1A = s.reg 0x1A) :
    t.irqLine = s.irqLine := by
  unfold State.irqLine State.irqMask
  rw [hf, hr]

/-- The sink is told the level exactly when it differs from the one it was last told. -/
theorem State.reportIrq_events (was : Bool) (s : State) :
    (State.reportIrq was s).env.events =
      if s.irqLine = was then s.env.events
      else (s.cursor.globalCycleCounter, .setIrqLine s.irqLine) :: s.env.events := by
  unfold State.reportIrq
  split <;> simp_all

@[simp] theorem State.reportIrq_irqLine (was : Bool) (s : State) : (State.reportIrq was s).irqLine = s.irqLine :=
  State.irqLine_congr (by simp) (by simp)

theorem irqLine_mono : ∀ f m k : BitVec 4, f &&& k ≠ 0 → (f ||| m) &&& k ≠ 0 := by decide +kernel

theorem irqLine_antitone : ∀ f m k : BitVec 4, f &&& k = 0 → f &&& ~~~m &&& k = 0 := by decide +kernel

/-- Raising a flag raises the line when the mask has it. -/
theorem State.raiseIrq_irqLine (s : State) (m : BitVec 4) :
    (s.raiseIrq m).irqLine = decide ((s.irqFlags ||| m) &&& s.irqMask ≠ 0) := by
  unfold State.irqLine State.irqMask
  rw [State.raiseIrq_irqFlags, State.raiseIrq_reg]

/-- Raising a flag never lowers the line (R343). -/
theorem State.raiseIrq_keeps_line (s : State) (m : BitVec 4) (h : s.irqLine = true) : (s.raiseIrq m).irqLine = true := by
  rw [State.raiseIrq_irqLine]
  simp only [State.irqLine, decide_eq_true_eq] at h ⊢
  exact irqLine_mono _ _ _ h

/-- What raising a flag adds to the trace: `setIrqLine(true)` exactly when the line goes up. -/
theorem State.raiseIrq_events (s : State) (m : BitVec 4) :
    (s.raiseIrq m).env.events =
      if (s.raiseIrq m).irqLine = s.irqLine then s.env.events
      else (s.cursor.globalCycleCounter, .setIrqLine (s.raiseIrq m).irqLine) :: s.env.events := by
  unfold State.raiseIrq
  rw [State.reportIrq_events, State.reportIrq_irqLine]

/-- What acknowledging flags adds to the trace: `setIrqLine(false)` exactly when the line goes down. -/
theorem State.acknowledgeIrq_events (s : State) (m : BitVec 4) :
    (s.acknowledgeIrq m).env.events =
      if (s.acknowledgeIrq m).irqLine = s.irqLine then s.env.events
      else (s.cursor.globalCycleCounter, .setIrqLine (s.acknowledgeIrq m).irqLine) :: s.env.events := by
  unfold State.acknowledgeIrq
  rw [State.reportIrq_events, State.reportIrq_irqLine]

/-- Raising flags in one piece: the flags are added, and the sink hears `true` exactly when the line goes up with them
(R341, R343). -/
theorem State.raiseIrq_eq (s : State) (m : BitVec 4) :
    s.raiseIrq m = { s with
      irqFlags := s.irqFlags ||| m
      env := { s.env with
        events :=
          if !s.irqLine && (s.raiseIrq m).irqLine then
            (s.cursor.globalCycleCounter, .setIrqLine true) :: s.env.events
          else s.env.events } } := by
  have h := State.raiseIrq_keeps_line s m
  rw [State.raiseIrq, State.reportIrq_irqLine] at *
  unfold State.reportIrq State.emit
  cases hs : s.irqLine
  · cases ht : State.irqLine { s with irqFlags := s.irqFlags ||| m } <;> simp
  · simp [h hs]

/-- Acknowledging flags in one piece: the flags are removed, and the sink hears `false` exactly when the line goes
down with them (R296, R343). -/
theorem State.acknowledgeIrq_eq (s : State) (m : BitVec 4) :
    s.acknowledgeIrq m = { s with
      irqFlags := s.irqFlags &&& ~~~m
      env := { s.env with
        events :=
          if s.irqLine && !(s.acknowledgeIrq m).irqLine then
            (s.cursor.globalCycleCounter, .setIrqLine false) :: s.env.events
          else s.env.events } } := by
  have h : s.irqLine = false → State.irqLine { s with irqFlags := s.irqFlags &&& ~~~m } = false := by
    have := irqLine_antitone s.irqFlags m s.irqMask
    intro h0
    unfold State.irqLine at h0 ⊢
    simp only [ne_eq, decide_eq_false_iff_not, not_not] at h0 ⊢
    exact this h0
  rw [State.acknowledgeIrq, State.reportIrq_irqLine]
  unfold State.reportIrq State.emit
  cases hs : s.irqLine
  · simp [h hs]
  · cases ht : State.irqLine { s with irqFlags := s.irqFlags &&& ~~~m } <;> simp

/-- A store inside the register bank, as an update of the bank. -/
theorem State.setReg_eq_set (s : State) (a : Nat) (v : Byte) (h : a < 47) :
    s.setReg a v = { s with regs := s.regs.set a v } := by
  simp [State.setReg, Vector.setIfInBounds, Vector.set, Array.setIfInBounds, h]

/-- The unit of a sprite after a change of every unit. -/
@[simp] theorem State.mapSprites_at (s : State) (f : Fin 8 → SpriteUnit → SpriteUnit) (i : Fin 8) :
    (s.mapSprites f).sprites[i] = f i s.sprites[i] := by
  simp

/-- The unit of a sprite after a change of one unit. -/
theorem State.mapSprite_at (s : State) (i j : Fin 8) (f : SpriteUnit → SpriteUnit) :
    (s.mapSprite i f).sprites[j] = if i = j then f s.sprites[i] else s.sprites[j] := by
  by_cases h : i = j
  · subst h; simp
  · have : i.val ≠ j.val := fun he => h (Fin.ext he)
    simp [h, this]

/-- Reading the framebuffer after a row is written: the row at its line, every other line as before. -/
theorem State.framePixel_writeRow (s : State) (y y' x : Nat) (row : List Nibble) :
    (s.writeRow y row).framePixel y' x = if y' = y then row.getD x 0 else s.framePixel y' x := by
  simp only [State.framePixel, State.writeRow_framebuffer, State.writeRow_params, Memory.read_write]
  split <;> rfl

theorem writeFrom_length {α : Type} (vs : List α) (x : Nat) (row : List α) : (writeFrom vs x row).length = row.length := by
  induction vs generalizing x row with
  | nil => rfl
  | cons v vs ih => simp [writeFrom, ih]

/-- Reading a row after successive elements are written from a position on. -/
theorem writeFrom_getElem? {α : Type} (vs : List α) (x : Nat) (row : List α) (y : Nat) :
    (writeFrom vs x row)[y]? = if x ≤ y ∧ y < x + vs.length ∧ y < row.length then vs[y - x]? else row[y]? := by
  induction vs generalizing x row with
  | nil =>
    have h : ¬ (x ≤ y ∧ y < x + ([] : List α).length ∧ y < row.length) := by simp; omega
    rw [if_neg h]; rfl
  | cons v vs ih =>
    simp only [writeFrom, ih, List.length_set, List.length_cons]
    by_cases hy : x = y
    · subst hy
      by_cases hl : x < row.length
      · simp [hl]
      · simp [hl]
    · by_cases h : x + 1 ≤ y ∧ y < x + 1 + vs.length ∧ y < row.length
      · have h' : x ≤ y ∧ y < x + (vs.length + 1) ∧ y < row.length := by omega
        rw [if_pos h, if_pos h']
        have : y - x = (y - (x + 1)) + 1 := by omega
        rw [this, List.getElem?_cons_succ]
      · have h' : ¬ (x ≤ y ∧ y < x + (vs.length + 1) ∧ y < row.length) := by omega
        rw [if_neg h, if_neg h', List.getElem?_set_ne hy]

theorem spriteNumbers_eq : spriteNumbers = List.finRange 8 := by decide

theorem mem_spriteNumbers (i : Fin 8) : i ∈ spriteNumbers := by
  rw [spriteNumbers_eq]; exact List.mem_finRange i

/-- Bit `i` of a column's collision mask says that sprite `i` draws there (R17). -/
theorem State.spriteMaskAt_bit (s : State) (x : Nat) (i : Fin 8) :
    (s.spriteMaskAt x).getLsbD i = (s.spriteAt x i).isSome := by
  have h : ∀ (p : Fin 8 → Bool) (i : Fin 8),
      (spriteNumbers.foldl (fun m i => if p i then m ||| (1#8 <<< i.val) else m) 0#8).getLsbD i = p i := by
    intro p i
    have : ∀ b0 b1 b2 b3 b4 b5 b6 b7 : Bool, ∀ i : Fin 8,
        (spriteNumbers.foldl (fun m i => if ([b0, b1, b2, b3, b4, b5, b6, b7].getD i.val false)
          then m ||| (1#8 <<< i.val) else m) 0#8).getLsbD i = [b0, b1, b2, b3, b4, b5, b6, b7].getD i.val false := by
      decide +kernel
    have h2 := this (p 0) (p 1) (p 2) (p 3) (p 4) (p 5) (p 6) (p 7) i
    have h3 : ∀ j : Fin 8, [p 0, p 1, p 2, p 3, p 4, p 5, p 6, p 7].getD j.val false = p j := by
      intro j; fin_cases j <;> rfl
    simpa only [h3] using h2
  exact h (fun i => (s.spriteAt x i).isSome) i

/-- Bit `i` of the sprite-background mask of a line: set when it is set in the mask of some column. -/
theorem spriteBackgroundMask_bit (masks : List Byte) (k : Nat) :
    (spriteBackgroundMask masks).getLsbD k = true ↔ ∃ m ∈ masks, m.getLsbD k = true := by
  have h : ∀ (acc : Byte), (masks.foldl (fun sb m => sb ||| m) acc).getLsbD k = true ↔
      acc.getLsbD k = true ∨ ∃ m ∈ masks, m.getLsbD k = true := by
    induction masks with
    | nil => intro acc; simp
    | cons m ms ih => intro acc; simp [ih, or_assoc]
  simpa [spriteBackgroundMask] using h 0

/-- Bit `k` of the sprite-sprite mask of a line: set when it is set in the mask of a column two sprites share. -/
theorem spriteSpriteMask_bit (masks : List Byte) (k : Nat) :
    (spriteSpriteMask masks).getLsbD k = true ↔ ∃ m ∈ masks, 2 ≤ spriteCount m ∧ m.getLsbD k = true := by
  have h : ∀ (acc : Byte), (masks.foldl (fun ss m => if 2 ≤ spriteCount m then ss ||| m else ss) acc).getLsbD k = true ↔
      acc.getLsbD k = true ∨ ∃ m ∈ masks, 2 ≤ spriteCount m ∧ m.getLsbD k = true := by
    induction masks with
    | nil => intro acc; simp
    | cons m ms ih =>
      intro acc
      rw [List.foldl_cons, ih]
      by_cases hm : 2 ≤ spriteCount m <;> simp [hm, or_assoc]
  simpa [spriteSpriteMask] using h 0

/-- A mask counts two sprites or more, and has sprite `i`, exactly when it has `i` and another sprite. -/
theorem two_le_spriteCount : ∀ (m : Byte) (i : Fin 8), m.getLsbD i = true →
    (2 ≤ spriteCount m ↔ ∃ j : Fin 8, j ≠ i ∧ m.getLsbD j = true) := by
  decide +kernel

/-- What one half of the collision latch leaves in the registers (R236). -/
theorem State.latchCollision_reg (s : State) (a : Nat) (flag : BitVec 4) (mask : Byte) (b : Nat) :
    (s.latchCollision a flag mask).reg b = if a = b ∧ b < 47 then s.reg b ||| mask else s.reg b := by
  unfold State.latchCollision
  split
  · rename_i h; subst h; simp
  · simp only [State.reg_setReg]
    split
    · rename_i h; rw [h.1]
    · split <;> simp

/-- What one half of the collision latch leaves in the flags (R236). -/
theorem State.latchCollision_irqFlags (s : State) (a : Nat) (flag : BitVec 4) (mask : Byte) :
    (s.latchCollision a flag mask).irqFlags = if mask ≠ 0 ∧ s.reg a = 0 then s.irqFlags ||| flag else s.irqFlags := by
  unfold State.latchCollision
  by_cases hm : mask = 0
  · rw [if_pos hm, if_neg (fun h => h.1 hm)]
  · rw [if_neg hm]
    by_cases hr : s.reg a = 0
    · simp only [if_pos hr, if_pos (And.intro hm hr), State.setReg_irqFlags, State.raiseIrq_irqFlags]
    · simp only [if_neg hr, if_neg (fun h : mask ≠ 0 ∧ s.reg a = 0 => hr h.2), State.setReg_irqFlags]

/-- The collision latch changes the registers, the flags and the trace, nothing else (R236). -/
theorem State.latchCollision_frame (s : State) (a : Nat) (flag : BitVec 4) (mask : Byte) :
    s.latchCollision a flag mask =
      { s with
        regs := (s.latchCollision a flag mask).regs
        irqFlags := (s.latchCollision a flag mask).irqFlags
        env := { s.env with events := (s.latchCollision a flag mask).env.events } } := by
  unfold State.latchCollision
  split
  · rfl
  · split
    · unfold State.raiseIrq State.reportIrq
      split <;> rfl
    · rfl

/-- The trace after raising flags: `setIrqLine(true)` is added exactly when the line goes up with them. -/
theorem State.raiseIrq_events_eq (s : State) (m : BitVec 4) :
    (s.raiseIrq m).env.events =
      if s.irqFlags &&& s.irqMask = 0 ∧ (s.irqFlags ||| m) &&& s.irqMask ≠ 0 then
        (s.cursor.globalCycleCounter, .setIrqLine true) :: s.env.events
      else s.env.events := by
  rw [State.raiseIrq_eq, State.raiseIrq_irqLine]
  by_cases h0 : s.irqFlags &&& s.irqMask = 0 <;> by_cases h1 : (s.irqFlags ||| m) &&& s.irqMask = 0 <;>
    simp [State.irqLine, h0, h1]

@[simp] theorem State.raiseIrq_irqMask (s : State) (m : BitVec 4) : (s.raiseIrq m).irqMask = s.irqMask := by
  unfold State.irqMask
  rw [State.raiseIrq_reg]

/-- Raising no flag changes nothing. -/
theorem State.raiseIrq_zero (s : State) : s.raiseIrq 0 = s := by
  rw [State.raiseIrq_eq, State.raiseIrq_irqLine, show s.irqFlags ||| 0 = s.irqFlags from BitVec.or_zero]
  have h : decide (s.irqFlags &&& s.irqMask ≠ 0) = s.irqLine := rfl
  rw [h]
  cases s.irqLine <;> rfl

/-- Raising flags twice is raising them together: the sink hears of one rise. -/
theorem State.raiseIrq_raiseIrq (s : State) (m k : BitVec 4) : (s.raiseIrq m).raiseIrq k = s.raiseIrq (m ||| k) := by
  apply State.ext <;> try simp [BitVec.or_assoc]
  apply Environment.ext <;> try simp
  rw [State.raiseIrq_events_eq, State.raiseIrq_events_eq s m, State.raiseIrq_events_eq s (m ||| k)]
  have mono := irqLine_mono (s.irqFlags ||| m) k s.irqMask
  have mono0 := irqLine_mono s.irqFlags m s.irqMask
  simp only [State.raiseIrq_irqMask, State.raiseIrq_irqFlags, State.raiseIrq_cursor, ← BitVec.or_assoc]
  by_cases h0 : s.irqFlags &&& s.irqMask = 0 <;> by_cases h1 : (s.irqFlags ||| m) &&& s.irqMask = 0 <;>
    by_cases h2 : (s.irqFlags ||| m ||| k) &&& s.irqMask = 0 <;> simp_all

/-- Raising flags looks at the bank through the mask register alone. -/
theorem State.raiseIrq_withRegs (s : State) (m : BitVec 4) (r : Vector Byte 47)
    (h : State.reg { s with regs := r } 0x1A = s.reg 0x1A) :
    State.raiseIrq { s with regs := r } m = { s.raiseIrq m with regs := r } := by
  have hm : State.irqMask { s with regs := r } = s.irqMask := by unfold State.irqMask; rw [h]
  apply State.ext <;> try simp
  apply Environment.ext <;> try simp
  rw [State.raiseIrq_events_eq, State.raiseIrq_events_eq, hm]

/-- The bank after a half of the collision latch (R236). -/
theorem State.latchCollision_regs (s : State) (a : Nat) (flag : BitVec 4) (mask : Byte) (h : a < 47) :
    (s.latchCollision a flag mask).regs = s.regs.set a (s.reg a ||| mask) := by
  unfold State.latchCollision
  by_cases hm : mask = 0
  · subst hm
    simp [State.reg, h]
  · rw [if_neg hm]
    split <;> simp [State.setReg_eq_set _ _ _ h]

/-- The flags both halves of the collision latch raise (R236). -/
def collisionFlags (s : State) (ss sb : Byte) : BitVec 4 :=
  (if ss ≠ 0 ∧ s.reg 0x1E = 0 then flagSpriteSprite else 0) |||
  (if sb ≠ 0 ∧ s.reg 0x1F = 0 then flagSpriteBackground else 0)

/-- One half of the collision latch in one piece: the flag is raised when the register goes from 0 to non-zero, and
the register gains the mask (R236). -/
theorem State.latchCollision_eq (s : State) (a : Nat) (flag : BitVec 4) (mask : Byte) (h : a < 47) :
    s.latchCollision a flag mask =
      { s.raiseIrq (if mask ≠ 0 ∧ s.reg a = 0 then flag else 0) with regs := s.regs.set a (s.reg a ||| mask) } := by
  unfold State.latchCollision
  by_cases hm : mask = 0
  · subst hm
    rw [if_pos rfl, if_neg (fun hc => hc.1 rfl), State.raiseIrq_zero]
    apply State.ext <;> simp [State.reg, h]
  · by_cases h0 : s.reg a = 0
    · simp only [if_neg hm, if_pos h0, if_pos (And.intro hm h0), State.setReg_eq_set _ _ _ h, State.raiseIrq_regs]
    · simp only [if_neg hm, if_neg h0, if_neg (fun hc : mask ≠ 0 ∧ s.reg a = 0 => h0 hc.2), State.raiseIrq_zero,
        State.setReg_eq_set _ _ _ h]

/-- The collision latch in one piece: both registers gain their masks, the flags of those that were 0 are raised, and
the sink hears `true` exactly when the line goes up (R236, R343). -/
theorem State.collisionLatch_eq (s : State) (ss sb : Byte) :
    s.collisionLatch ss sb = { s.raiseIrq (collisionFlags s ss sb) with
      regs := (s.regs.set 0x1E (s.reg 0x1E ||| ss)).set 0x1F (s.reg 0x1F ||| sb) } := by
  unfold State.collisionLatch
  rw [State.latchCollision_eq s _ _ _ (by decide), State.latchCollision_eq _ _ _ _ (by decide),
    State.raiseIrq_withRegs _ _ _ (by simp [State.reg]), State.raiseIrq_raiseIrq]
  have h : State.reg { s.raiseIrq (if ss ≠ 0 ∧ s.reg 0x1E = 0 then flagSpriteSprite else 0) with
      regs := s.regs.set 0x1E (s.reg 0x1E ||| ss) } 0x1F = s.reg 0x1F := by
    simp [State.reg]
  rw [h]
  rfl

/-- What T_DRAW leaves, element by element (R230, R236, R237). -/
theorem State.drawLine_eq (s : State) :
    s.drawLine =
      let b := s.collisionBuffers
      let ss := spriteSpriteMask b.spriteCollision
      let sb := spriteBackgroundMask b.foregroundCollision
      { s.raiseIrq (collisionFlags s ss sb) with
        collision := b
        regs := (s.regs.set 0x1E (s.reg 0x1E ||| ss)).set 0x1F (s.reg 0x1F ||| sb)
        framebuffer := Memory.write (some (blankRow s.params)) s.framebuffer s.cursor.scanline.toNat
          ((columns s.params).map s.outAt) } := by
  unfold State.drawLine
  dsimp only
  rw [State.collisionLatch_eq]
  have hc : collisionFlags { s with collision := s.collisionBuffers } = collisionFlags s := rfl
  rw [hc]
  apply State.ext <;> try simp [State.writeRow]
  · rfl
  · apply Environment.ext <;> try simp
    rw [State.raiseIrq_events_eq, State.raiseIrq_events_eq]
    rfl

end Sys2Proof.Machine
end

