-- ==== Sys2Proof/Laws/Exec.lean ====
section
/-! SUPPORT. The dispatch, one lemma per constructor, and what a port instruction can do said once: the proofs over all
instructions split the 98 port instructions into seven cases and never unfold `exec`. -/

namespace Sys2Proof.Machine

@[simp] theorem exec_rd00 (s : State) : exec .rd00 s = execRd00 s := rfl
@[simp] theorem exec_wr00 (v : Byte) (s : State) : exec (.wr00 v) s = execWr00 v s := rfl
@[simp] theorem exec_rd01 (s : State) : exec .rd01 s = execRd01 s := rfl
@[simp] theorem exec_wr01 (v : Byte) (s : State) : exec (.wr01 v) s = execWr01 v s := rfl
@[simp] theorem exec_rd02 (s : State) : exec .rd02 s = execRd02 s := rfl
@[simp] theorem exec_wr02 (v : Byte) (s : State) : exec (.wr02 v) s = execWr02 v s := rfl
@[simp] theorem exec_rd03 (s : State) : exec .rd03 s = execRd03 s := rfl
@[simp] theorem exec_wr03 (v : Byte) (s : State) : exec (.wr03 v) s = execWr03 v s := rfl
@[simp] theorem exec_rd04 (s : State) : exec .rd04 s = execRd04 s := rfl
@[simp] theorem exec_wr04 (v : Byte) (s : State) : exec (.wr04 v) s = execWr04 v s := rfl
@[simp] theorem exec_rd05 (s : State) : exec .rd05 s = execRd05 s := rfl
@[simp] theorem exec_wr05 (v : Byte) (s : State) : exec (.wr05 v) s = execWr05 v s := rfl
@[simp] theorem exec_rd06 (s : State) : exec .rd06 s = execRd06 s := rfl
@[simp] theorem exec_wr06 (v : Byte) (s : State) : exec (.wr06 v) s = execWr06 v s := rfl
@[simp] theorem exec_rd07 (s : State) : exec .rd07 s = execRd07 s := rfl
@[simp] theorem exec_wr07 (v : Byte) (s : State) : exec (.wr07 v) s = execWr07 v s := rfl
@[simp] theorem exec_rd08 (s : State) : exec .rd08 s = execRd08 s := rfl
@[simp] theorem exec_wr08 (v : Byte) (s : State) : exec (.wr08 v) s = execWr08 v s := rfl
@[simp] theorem exec_rd09 (s : State) : exec .rd09 s = execRd09 s := rfl
@[simp] theorem exec_wr09 (v : Byte) (s : State) : exec (.wr09 v) s = execWr09 v s := rfl
@[simp] theorem exec_rd0A (s : State) : exec .rd0A s = execRd0A s := rfl
@[simp] theorem exec_wr0A (v : Byte) (s : State) : exec (.wr0A v) s = execWr0A v s := rfl
@[simp] theorem exec_rd0B (s : State) : exec .rd0B s = execRd0B s := rfl
@[simp] theorem exec_wr0B (v : Byte) (s : State) : exec (.wr0B v) s = execWr0B v s := rfl
@[simp] theorem exec_rd0C (s : State) : exec .rd0C s = execRd0C s := rfl
@[simp] theorem exec_wr0C (v : Byte) (s : State) : exec (.wr0C v) s = execWr0C v s := rfl
@[simp] theorem exec_rd0D (s : State) : exec .rd0D s = execRd0D s := rfl
@[simp] theorem exec_wr0D (v : Byte) (s : State) : exec (.wr0D v) s = execWr0D v s := rfl
@[simp] theorem exec_rd0E (s : State) : exec .rd0E s = execRd0E s := rfl
@[simp] theorem exec_wr0E (v : Byte) (s : State) : exec (.wr0E v) s = execWr0E v s := rfl
@[simp] theorem exec_rd0F (s : State) : exec .rd0F s = execRd0F s := rfl
@[simp] theorem exec_wr0F (v : Byte) (s : State) : exec (.wr0F v) s = execWr0F v s := rfl
@[simp] theorem exec_rd10 (s : State) : exec .rd10 s = execRd10 s := rfl
@[simp] theorem exec_wr10 (v : Byte) (s : State) : exec (.wr10 v) s = execWr10 v s := rfl
@[simp] theorem exec_rd11 (s : State) : exec .rd11 s = execRd11 s := rfl
@[simp] theorem exec_wr11 (v : Byte) (s : State) : exec (.wr11 v) s = execWr11 v s := rfl
@[simp] theorem exec_rd12 (s : State) : exec .rd12 s = execRd12 s := rfl
@[simp] theorem exec_wr12 (v : Byte) (s : State) : exec (.wr12 v) s = execWr12 v s := rfl
@[simp] theorem exec_rd13 (s : State) : exec .rd13 s = execRd13 s := rfl
@[simp] theorem exec_wr13 (v : Byte) (s : State) : exec (.wr13 v) s = execWr13 v s := rfl
@[simp] theorem exec_rd14 (s : State) : exec .rd14 s = execRd14 s := rfl
@[simp] theorem exec_wr14 (v : Byte) (s : State) : exec (.wr14 v) s = execWr14 v s := rfl
@[simp] theorem exec_rd15 (s : State) : exec .rd15 s = execRd15 s := rfl
@[simp] theorem exec_wr15 (v : Byte) (s : State) : exec (.wr15 v) s = execWr15 v s := rfl
@[simp] theorem exec_rd16 (s : State) : exec .rd16 s = execRd16 s := rfl
@[simp] theorem exec_wr16 (v : Byte) (s : State) : exec (.wr16 v) s = execWr16 v s := rfl
@[simp] theorem exec_rd17 (s : State) : exec .rd17 s = execRd17 s := rfl
@[simp] theorem exec_wr17 (v : Byte) (s : State) : exec (.wr17 v) s = execWr17 v s := rfl
@[simp] theorem exec_rd18 (s : State) : exec .rd18 s = execRd18 s := rfl
@[simp] theorem exec_wr18 (v : Byte) (s : State) : exec (.wr18 v) s = execWr18 v s := rfl
@[simp] theorem exec_rd19 (s : State) : exec .rd19 s = execRd19 s := rfl
@[simp] theorem exec_wr19 (v : Byte) (s : State) : exec (.wr19 v) s = execWr19 v s := rfl
@[simp] theorem exec_rd1A (s : State) : exec .rd1A s = execRd1A s := rfl
@[simp] theorem exec_wr1A (v : Byte) (s : State) : exec (.wr1A v) s = execWr1A v s := rfl
@[simp] theorem exec_rd1B (s : State) : exec .rd1B s = execRd1B s := rfl
@[simp] theorem exec_wr1B (v : Byte) (s : State) : exec (.wr1B v) s = execWr1B v s := rfl
@[simp] theorem exec_rd1C (s : State) : exec .rd1C s = execRd1C s := rfl
@[simp] theorem exec_wr1C (v : Byte) (s : State) : exec (.wr1C v) s = execWr1C v s := rfl
@[simp] theorem exec_rd1D (s : State) : exec .rd1D s = execRd1D s := rfl
@[simp] theorem exec_wr1D (v : Byte) (s : State) : exec (.wr1D v) s = execWr1D v s := rfl
@[simp] theorem exec_rd1E (s : State) : exec .rd1E s = execRd1E s := rfl
@[simp] theorem exec_wr1E (v : Byte) (s : State) : exec (.wr1E v) s = execWr1E v s := rfl
@[simp] theorem exec_rd1F (s : State) : exec .rd1F s = execRd1F s := rfl
@[simp] theorem exec_wr1F (v : Byte) (s : State) : exec (.wr1F v) s = execWr1F v s := rfl
@[simp] theorem exec_rd20 (s : State) : exec .rd20 s = execRd20 s := rfl
@[simp] theorem exec_wr20 (v : Byte) (s : State) : exec (.wr20 v) s = execWr20 v s := rfl
@[simp] theorem exec_rd21 (s : State) : exec .rd21 s = execRd21 s := rfl
@[simp] theorem exec_wr21 (v : Byte) (s : State) : exec (.wr21 v) s = execWr21 v s := rfl
@[simp] theorem exec_rd22 (s : State) : exec .rd22 s = execRd22 s := rfl
@[simp] theorem exec_wr22 (v : Byte) (s : State) : exec (.wr22 v) s = execWr22 v s := rfl
@[simp] theorem exec_rd23 (s : State) : exec .rd23 s = execRd23 s := rfl
@[simp] theorem exec_wr23 (v : Byte) (s : State) : exec (.wr23 v) s = execWr23 v s := rfl
@[simp] theorem exec_rd24 (s : State) : exec .rd24 s = execRd24 s := rfl
@[simp] theorem exec_wr24 (v : Byte) (s : State) : exec (.wr24 v) s = execWr24 v s := rfl
@[simp] theorem exec_rd25 (s : State) : exec .rd25 s = execRd25 s := rfl
@[simp] theorem exec_wr25 (v : Byte) (s : State) : exec (.wr25 v) s = execWr25 v s := rfl
@[simp] theorem exec_rd26 (s : State) : exec .rd26 s = execRd26 s := rfl
@[simp] theorem exec_wr26 (v : Byte) (s : State) : exec (.wr26 v) s = execWr26 v s := rfl
@[simp] theorem exec_rd27 (s : State) : exec .rd27 s = execRd27 s := rfl
@[simp] theorem exec_wr27 (v : Byte) (s : State) : exec (.wr27 v) s = execWr27 v s := rfl
@[simp] theorem exec_rd28 (s : State) : exec .rd28 s = execRd28 s := rfl
@[simp] theorem exec_wr28 (v : Byte) (s : State) : exec (.wr28 v) s = execWr28 v s := rfl
@[simp] theorem exec_rd29 (s : State) : exec .rd29 s = execRd29 s := rfl
@[simp] theorem exec_wr29 (v : Byte) (s : State) : exec (.wr29 v) s = execWr29 v s := rfl
@[simp] theorem exec_rd2A (s : State) : exec .rd2A s = execRd2A s := rfl
@[simp] theorem exec_wr2A (v : Byte) (s : State) : exec (.wr2A v) s = execWr2A v s := rfl
@[simp] theorem exec_rd2B (s : State) : exec .rd2B s = execRd2B s := rfl
@[simp] theorem exec_wr2B (v : Byte) (s : State) : exec (.wr2B v) s = execWr2B v s := rfl
@[simp] theorem exec_rd2C (s : State) : exec .rd2C s = execRd2C s := rfl
@[simp] theorem exec_wr2C (v : Byte) (s : State) : exec (.wr2C v) s = execWr2C v s := rfl
@[simp] theorem exec_rd2D (s : State) : exec .rd2D s = execRd2D s := rfl
@[simp] theorem exec_wr2D (v : Byte) (s : State) : exec (.wr2D v) s = execWr2D v s := rfl
@[simp] theorem exec_rd2E (s : State) : exec .rd2E s = execRd2E s := rfl
@[simp] theorem exec_wr2E (v : Byte) (s : State) : exec (.wr2E v) s = execWr2E v s := rfl
@[simp] theorem exec_rd2F (s : State) : exec .rd2F s = execRd2F s := rfl
@[simp] theorem exec_rdUnused (low : Nibble) (s : State) : exec (.rdUnused low) s = execRdUnused low s := rfl
@[simp] theorem exec_wr2F (v : Byte) (s : State) : exec (.wr2F v) s = execWr2F v s := rfl
@[simp] theorem exec_wrUnused (low : Nibble) (v : Byte) (s : State) : exec (.wrUnused low v) s = execWrUnused low v s := rfl
@[simp] theorem exec_idle (s : State) : exec .idle s = execIdle s := rfl
@[simp] theorem exec_refresh (s : State) : exec .refresh s = execRefresh s := rfl
@[simp] theorem exec_sptr (n : Fin 8) (s : State) : exec (.sptr n) s = execSptr n s := rfl
@[simp] theorem exec_sdata0 (n : Fin 8) (s : State) : exec (.sdata0 n) s = execSdata0 n s := rfl
@[simp] theorem exec_sdata1 (n : Fin 8) (s : State) : exec (.sdata1 n) s = execSdata1 n s := rfl
@[simp] theorem exec_sdata2 (n : Fin 8) (s : State) : exec (.sdata2 n) s = execSdata2 n s := rfl
@[simp] theorem exec_matrix (s : State) : exec .matrix s = execMatrix s := rfl
@[simp] theorem exec_gfx (s : State) : exec .gfx s = execGfx s := rfl
@[simp] theorem exec_tRaster (s : State) : exec .tRaster s = execTRaster s := rfl
@[simp] theorem exec_tBadline (s : State) : exec .tBadline s = execTBadline s := rfl
@[simp] theorem exec_tVborder (s : State) : exec .tVborder s = execTVborder s := rfl
@[simp] theorem exec_tClearline (s : State) : exec .tClearline s = execTClearline s := rfl
@[simp] theorem exec_tVcload (s : State) : exec .tVcload s = execTVcload s := rfl
@[simp] theorem exec_tSpradv (s : State) : exec .tSpradv s = execTSpradv s := rfl
@[simp] theorem exec_tYexp (s : State) : exec .tYexp s = execTYexp s := rfl
@[simp] theorem exec_tDmachk (s : State) : exec .tDmachk s = execTDmachk s := rfl
@[simp] theorem exec_tDraw (s : State) : exec .tDraw s = execTDraw s := rfl
@[simp] theorem exec_tSprdisp (s : State) : exec .tSprdisp s = execTSprdisp s := rfl
@[simp] theorem exec_tRcadv (s : State) : exec .tRcadv s = execTRcadv s := rfl
@[simp] theorem exec_tHleft (cs : Bool) (s : State) : exec (.tHleft cs) s = execTHleft cs s := rfl
@[simp] theorem exec_tHright (cs : Bool) (s : State) : exec (.tHright cs) s = execTHright cs s := rfl
@[simp] theorem exec_tBsample0 (s : State) : exec .tBsample0 s = execTBsample0 s := rfl
@[simp] theorem exec_tBsample1 (s : State) : exec .tBsample1 s = execTBsample1 s := rfl
@[simp] theorem exec_tBsample2 (s : State) : exec .tBsample2 s = execTBsample2 s := rfl
@[simp] theorem exec_tBsample3 (s : State) : exec .tBsample3 s = execTBsample3 s := rfl
@[simp] theorem exec_tBsample4 (s : State) : exec .tBsample4 s = execTBsample4 s := rfl

/-- A port instruction answers a next state, of one of seven forms: a byte is returned; a byte is returned and its
register cleared (the two collision registers); a byte is stored in a register other than the flag, mask, light-pen and
collision registers; nothing happens; flags are acknowledged; the mask is stored. -/
theorem exec_port (i : Instr) (s : State) (h : i.kind = .port) :
    (∃ b, exec i s = .next (s.portReturn b)) ∨
    (∃ a, (a = 0x1E ∧ i = .rd1E ∨ a = 0x1F ∧ i = .rd1F) ∧ exec i s = .next ((s.portReturn (s.reg a)).setReg a 0)) ∨
    (∃ a v, a < 47 ∧ a ∉ [0x13, 0x14, 0x19, 0x1A, 0x1E, 0x1F] ∧ exec i s = .next (s.setReg a v)) ∨
    exec i s = .next s ∨
    (∃ v : Byte, i = .wr19 v ∧ exec i s = .next (s.acknowledgeIrq (v.extractLsb' 0 4))) ∨
    (∃ v, i = .wr1A v ∧ exec i s = .next (State.reportIrq s.irqLine (s.setReg 0x1A v))) := by
  cases i with
  | rd00 => exact .inl ⟨_, rfl⟩
  | wr00 v => exact .inr (.inr (.inl ⟨0x00, v, by decide, by decide, rfl⟩))
  | rd01 => exact .inl ⟨_, rfl⟩
  | wr01 v => exact .inr (.inr (.inl ⟨0x01, v, by decide, by decide, rfl⟩))
  | rd02 => exact .inl ⟨_, rfl⟩
  | wr02 v => exact .inr (.inr (.inl ⟨0x02, v, by decide, by decide, rfl⟩))
  | rd03 => exact .inl ⟨_, rfl⟩
  | wr03 v => exact .inr (.inr (.inl ⟨0x03, v, by decide, by decide, rfl⟩))
  | rd04 => exact .inl ⟨_, rfl⟩
  | wr04 v => exact .inr (.inr (.inl ⟨0x04, v, by decide, by decide, rfl⟩))
  | rd05 => exact .inl ⟨_, rfl⟩
  | wr05 v => exact .inr (.inr (.inl ⟨0x05, v, by decide, by decide, rfl⟩))
  | rd06 => exact .inl ⟨_, rfl⟩
  | wr06 v => exact .inr (.inr (.inl ⟨0x06, v, by decide, by decide, rfl⟩))
  | rd07 => exact .inl ⟨_, rfl⟩
  | wr07 v => exact .inr (.inr (.inl ⟨0x07, v, by decide, by decide, rfl⟩))
  | rd08 => exact .inl ⟨_, rfl⟩
  | wr08 v => exact .inr (.inr (.inl ⟨0x08, v, by decide, by decide, rfl⟩))
  | rd09 => exact .inl ⟨_, rfl⟩
  | wr09 v => exact .inr (.inr (.inl ⟨0x09, v, by decide, by decide, rfl⟩))
  | rd0A => exact .inl ⟨_, rfl⟩
  | wr0A v => exact .inr (.inr (.inl ⟨0x0A, v, by decide, by decide, rfl⟩))
  | rd0B => exact .inl ⟨_, rfl⟩
  | wr0B v => exact .inr (.inr (.inl ⟨0x0B, v, by decide, by decide, rfl⟩))
  | rd0C => exact .inl ⟨_, rfl⟩
  | wr0C v => exact .inr (.inr (.inl ⟨0x0C, v, by decide, by decide, rfl⟩))
  | rd0D => exact .inl ⟨_, rfl⟩
  | wr0D v => exact .inr (.inr (.inl ⟨0x0D, v, by decide, by decide, rfl⟩))
  | rd0E => exact .inl ⟨_, rfl⟩
  | wr0E v => exact .inr (.inr (.inl ⟨0x0E, v, by decide, by decide, rfl⟩))
  | rd0F => exact .inl ⟨_, rfl⟩
  | wr0F v => exact .inr (.inr (.inl ⟨0x0F, v, by decide, by decide, rfl⟩))
  | rd10 => exact .inl ⟨_, rfl⟩
  | wr10 v => exact .inr (.inr (.inl ⟨0x10, v, by decide, by decide, rfl⟩))
  | rd11 => exact .inl ⟨_, rfl⟩
  | wr11 v => exact .inr (.inr (.inl ⟨0x11, v, by decide, by decide, rfl⟩))
  | rd12 => exact .inl ⟨_, rfl⟩
  | wr12 v => exact .inr (.inr (.inl ⟨0x12, v, by decide, by decide, rfl⟩))
  | rd13 => exact .inl ⟨_, rfl⟩
  | wr13 _ => exact .inr (.inr (.inr (.inl rfl)))
  | rd14 => exact .inl ⟨_, rfl⟩
  | wr14 _ => exact .inr (.inr (.inr (.inl rfl)))
  | rd15 => exact .inl ⟨_, rfl⟩
  | wr15 v => exact .inr (.inr (.inl ⟨0x15, v, by decide, by decide, rfl⟩))
  | rd16 => exact .inl ⟨_, rfl⟩
  | wr16 v => exact .inr (.inr (.inl ⟨0x16, v, by decide, by decide, rfl⟩))
  | rd17 => exact .inl ⟨_, rfl⟩
  | wr17 v => exact .inr (.inr (.inl ⟨0x17, v, by decide, by decide, rfl⟩))
  | rd18 => exact .inl ⟨_, rfl⟩
  | wr18 v => exact .inr (.inr (.inl ⟨0x18, v, by decide, by decide, rfl⟩))
  | rd19 => exact .inl ⟨_, rfl⟩
  | wr19 v => exact .inr (.inr (.inr (.inr (.inl ⟨v, rfl, rfl⟩))))
  | rd1A => exact .inl ⟨_, rfl⟩
  | wr1A v => exact .inr (.inr (.inr (.inr (.inr ⟨v, rfl, rfl⟩))))
  | rd1B => exact .inl ⟨_, rfl⟩
  | wr1B v => exact .inr (.inr (.inl ⟨0x1B, v, by decide, by decide, rfl⟩))
  | rd1C => exact .inl ⟨_, rfl⟩
  | wr1C v => exact .inr (.inr (.inl ⟨0x1C, v, by decide, by decide, rfl⟩))
  | rd1D => exact .inl ⟨_, rfl⟩
  | wr1D v => exact .inr (.inr (.inl ⟨0x1D, v, by decide, by decide, rfl⟩))
  | rd1E => exact .inr (.inl ⟨_, .inl ⟨rfl, rfl⟩, rfl⟩)
  | wr1E _ => exact .inr (.inr (.inr (.inl rfl)))
  | rd1F => exact .inr (.inl ⟨_, .inr ⟨rfl, rfl⟩, rfl⟩)
  | wr1F _ => exact .inr (.inr (.inr (.inl rfl)))
  | rd20 => exact .inl ⟨_, rfl⟩
  | wr20 v => exact .inr (.inr (.inl ⟨0x20, v, by decide, by decide, rfl⟩))
  | rd21 => exact .inl ⟨_, rfl⟩
  | wr21 v => exact .inr (.inr (.inl ⟨0x21, v, by decide, by decide, rfl⟩))
  | rd22 => exact .inl ⟨_, rfl⟩
  | wr22 v => exact .inr (.inr (.inl ⟨0x22, v, by decide, by decide, rfl⟩))
  | rd23 => exact .inl ⟨_, rfl⟩
  | wr23 v => exact .inr (.inr (.inl ⟨0x23, v, by decide, by decide, rfl⟩))
  | rd24 => exact .inl ⟨_, rfl⟩
  | wr24 v => exact .inr (.inr (.inl ⟨0x24, v, by decide, by decide, rfl⟩))
  | rd25 => exact .inl ⟨_, rfl⟩
  | wr25 v => exact .inr (.inr (.inl ⟨0x25, v, by decide, by decide, rfl⟩))
  | rd26 => exact .inl ⟨_, rfl⟩
  | wr26 v => exact .inr (.inr (.inl ⟨0x26, v, by decide, by decide, rfl⟩))
  | rd27 => exact .inl ⟨_, rfl⟩
  | wr27 v => exact .inr (.inr (.inl ⟨0x27, v, by decide, by decide, rfl⟩))
  | rd28 => exact .inl ⟨_, rfl⟩
  | wr28 v => exact .inr (.inr (.inl ⟨0x28, v, by decide, by decide, rfl⟩))
  | rd29 => exact .inl ⟨_, rfl⟩
  | wr29 v => exact .inr (.inr (.inl ⟨0x29, v, by decide, by decide, rfl⟩))
  | rd2A => exact .inl ⟨_, rfl⟩
  | wr2A v => exact .inr (.inr (.inl ⟨0x2A, v, by decide, by decide, rfl⟩))
  | rd2B => exact .inl ⟨_, rfl⟩
  | wr2B v => exact .inr (.inr (.inl ⟨0x2B, v, by decide, by decide, rfl⟩))
  | rd2C => exact .inl ⟨_, rfl⟩
  | wr2C v => exact .inr (.inr (.inl ⟨0x2C, v, by decide, by decide, rfl⟩))
  | rd2D => exact .inl ⟨_, rfl⟩
  | wr2D v => exact .inr (.inr (.inl ⟨0x2D, v, by decide, by decide, rfl⟩))
  | rd2E => exact .inl ⟨_, rfl⟩
  | wr2E v => exact .inr (.inr (.inl ⟨0x2E, v, by decide, by decide, rfl⟩))
  | rd2F => exact .inl ⟨_, rfl⟩
  | rdUnused _ => exact .inl ⟨_, rfl⟩
  | wr2F _ => exact .inr (.inr (.inr (.inl rfl)))
  | wrUnused _ _ => exact .inr (.inr (.inr (.inl rfl)))
  | idle => cases h
  | refresh => cases h
  | sptr _ => cases h
  | sdata0 _ => cases h
  | sdata1 _ => cases h
  | sdata2 _ => cases h
  | matrix => cases h
  | gfx => cases h
  | tRaster => cases h
  | tBadline => cases h
  | tVborder => cases h
  | tClearline => cases h
  | tVcload => cases h
  | tSpradv => cases h
  | tYexp => cases h
  | tDmachk => cases h
  | tDraw => cases h
  | tSprdisp => cases h
  | tRcadv => cases h
  | tHleft _ => cases h
  | tHright _ => cases h
  | tBsample0 => cases h
  | tBsample1 => cases h
  | tBsample2 => cases h
  | tBsample3 => cases h
  | tBsample4 => cases h

end Sys2Proof.Machine
end

