-- ==== Sys2Proof/Laws/Frames.lean ====
section
/-! SUPPORT. What the composed operations leave unchanged: the accesses of MATRIX, GFX and SDATA, T_DRAW, the
arbitration, the cursor advance and the light-pen sample, one lemma per field that the operation does not write. -/

namespace Sys2Proof.Machine

@[simp] theorem State.fetchColumn_params (s : State) (k : Fin 40) : (s.fetchColumn k).params = s.params := by simp [State.fetchColumn]
@[simp] theorem State.fetchColumn_regs (s : State) (k : Fin 40) : (s.fetchColumn k).regs = s.regs := by simp [State.fetchColumn]
@[simp] theorem State.fetchColumn_irqFlags (s : State) (k : Fin 40) : (s.fetchColumn k).irqFlags = s.irqFlags := by simp [State.fetchColumn]
@[simp] theorem State.fetchColumn_cursor (s : State) (k : Fin 40) : (s.fetchColumn k).cursor = s.cursor := by simp [State.fetchColumn]
@[simp] theorem State.fetchColumn_display (s : State) (k : Fin 40) : (s.fetchColumn k).display = s.display := by simp [State.fetchColumn]
@[simp] theorem State.fetchColumn_refreshCounter (s : State) (k : Fin 40) : (s.fetchColumn k).refreshCounter = s.refreshCounter := by simp [State.fetchColumn]
@[simp] theorem State.fetchColumn_sprites (s : State) (k : Fin 40) : (s.fetchColumn k).sprites = s.sprites := by simp [State.fetchColumn]
@[simp] theorem State.fetchColumn_collision (s : State) (k : Fin 40) : (s.fetchColumn k).collision = s.collision := by simp [State.fetchColumn]
@[simp] theorem State.fetchColumn_gfxLine (s : State) (k : Fin 40) : (s.fetchColumn k).gfxLine = s.gfxLine := by simp [State.fetchColumn]
@[simp] theorem State.fetchColumn_border (s : State) (k : Fin 40) : (s.fetchColumn k).border = s.border := by simp [State.fetchColumn]
@[simp] theorem State.fetchColumn_pen (s : State) (k : Fin 40) : (s.fetchColumn k).pen = s.pen := by simp [State.fetchColumn]
@[simp] theorem State.fetchColumn_arbiter (s : State) (k : Fin 40) : (s.fetchColumn k).arbiter = s.arbiter := by simp [State.fetchColumn]
@[simp] theorem State.fetchColumn_framebuffer (s : State) (k : Fin 40) : (s.fetchColumn k).framebuffer = s.framebuffer := by simp [State.fetchColumn]
@[simp] theorem State.fetchColumn_agenda (s : State) (k : Fin 40) : (s.fetchColumn k).agenda = s.agenda := by simp [State.fetchColumn]
@[simp] theorem State.fetchColumn_requests (s : State) (k : Fin 40) : (s.fetchColumn k).env.requests = s.env.requests := by simp [State.fetchColumn]
@[simp] theorem State.fetchColumn_penButton (s : State) (k : Fin 40) : (s.fetchColumn k).env.penButton = s.env.penButton := by simp [State.fetchColumn]
@[simp] theorem State.fetchColumn_penX (s : State) (k : Fin 40) : (s.fetchColumn k).env.penX = s.env.penX := by simp [State.fetchColumn]
@[simp] theorem State.fetchColumn_penY (s : State) (k : Fin 40) : (s.fetchColumn k).env.penY = s.env.penY := by simp [State.fetchColumn]
@[simp] theorem State.fetchColumn_videoMemory (s : State) (k : Fin 40) : (s.fetchColumn k).env.videoMemory = s.env.videoMemory := by simp [State.fetchColumn]
@[simp] theorem State.fetchColumn_colourMemory (s : State) (k : Fin 40) : (s.fetchColumn k).env.colourMemory = s.env.colourMemory := by simp [State.fetchColumn]
@[simp] theorem State.fetchColumn_portOut (s : State) (k : Fin 40) : (s.fetchColumn k).env.portOut = s.env.portOut := by simp [State.fetchColumn]
@[simp] theorem State.fetchColumn_reg (s : State) (k : Fin 40) (c : Nat) : (s.fetchColumn k).reg c = s.reg c := by simp [State.reg]

@[simp] theorem State.fetchGraphics_params (s : State) (k : Fin 40) : (s.fetchGraphics k).params = s.params := by simp [State.fetchGraphics]
@[simp] theorem State.fetchGraphics_regs (s : State) (k : Fin 40) : (s.fetchGraphics k).regs = s.regs := by simp [State.fetchGraphics]
@[simp] theorem State.fetchGraphics_irqFlags (s : State) (k : Fin 40) : (s.fetchGraphics k).irqFlags = s.irqFlags := by simp [State.fetchGraphics]
@[simp] theorem State.fetchGraphics_cursor (s : State) (k : Fin 40) : (s.fetchGraphics k).cursor = s.cursor := by simp [State.fetchGraphics]
@[simp] theorem State.fetchGraphics_refreshCounter (s : State) (k : Fin 40) : (s.fetchGraphics k).refreshCounter = s.refreshCounter := by simp [State.fetchGraphics]
@[simp] theorem State.fetchGraphics_lines (s : State) (k : Fin 40) : (s.fetchGraphics k).lines = s.lines := by simp [State.fetchGraphics]
@[simp] theorem State.fetchGraphics_sprites (s : State) (k : Fin 40) : (s.fetchGraphics k).sprites = s.sprites := by simp [State.fetchGraphics]
@[simp] theorem State.fetchGraphics_collision (s : State) (k : Fin 40) : (s.fetchGraphics k).collision = s.collision := by simp [State.fetchGraphics]
@[simp] theorem State.fetchGraphics_border (s : State) (k : Fin 40) : (s.fetchGraphics k).border = s.border := by simp [State.fetchGraphics]
@[simp] theorem State.fetchGraphics_pen (s : State) (k : Fin 40) : (s.fetchGraphics k).pen = s.pen := by simp [State.fetchGraphics]
@[simp] theorem State.fetchGraphics_arbiter (s : State) (k : Fin 40) : (s.fetchGraphics k).arbiter = s.arbiter := by simp [State.fetchGraphics]
@[simp] theorem State.fetchGraphics_framebuffer (s : State) (k : Fin 40) : (s.fetchGraphics k).framebuffer = s.framebuffer := by simp [State.fetchGraphics]
@[simp] theorem State.fetchGraphics_agenda (s : State) (k : Fin 40) : (s.fetchGraphics k).agenda = s.agenda := by simp [State.fetchGraphics]
@[simp] theorem State.fetchGraphics_requests (s : State) (k : Fin 40) : (s.fetchGraphics k).env.requests = s.env.requests := by simp [State.fetchGraphics]
@[simp] theorem State.fetchGraphics_penButton (s : State) (k : Fin 40) : (s.fetchGraphics k).env.penButton = s.env.penButton := by simp [State.fetchGraphics]
@[simp] theorem State.fetchGraphics_penX (s : State) (k : Fin 40) : (s.fetchGraphics k).env.penX = s.env.penX := by simp [State.fetchGraphics]
@[simp] theorem State.fetchGraphics_penY (s : State) (k : Fin 40) : (s.fetchGraphics k).env.penY = s.env.penY := by simp [State.fetchGraphics]
@[simp] theorem State.fetchGraphics_videoMemory (s : State) (k : Fin 40) : (s.fetchGraphics k).env.videoMemory = s.env.videoMemory := by simp [State.fetchGraphics]
@[simp] theorem State.fetchGraphics_colourMemory (s : State) (k : Fin 40) : (s.fetchGraphics k).env.colourMemory = s.env.colourMemory := by simp [State.fetchGraphics]
@[simp] theorem State.fetchGraphics_portOut (s : State) (k : Fin 40) : (s.fetchGraphics k).env.portOut = s.env.portOut := by simp [State.fetchGraphics]
@[simp] theorem State.fetchGraphics_reg (s : State) (k : Fin 40) (c : Nat) : (s.fetchGraphics k).reg c = s.reg c := by simp [State.reg]

@[simp] theorem State.spriteData_params (s : State) (i : Fin 8) (j : Fin 3) : (s.spriteData i j).params = s.params := by unfold State.spriteData; dsimp only; split <;> simp
@[simp] theorem State.spriteData_regs (s : State) (i : Fin 8) (j : Fin 3) : (s.spriteData i j).regs = s.regs := by unfold State.spriteData; dsimp only; split <;> simp
@[simp] theorem State.spriteData_irqFlags (s : State) (i : Fin 8) (j : Fin 3) : (s.spriteData i j).irqFlags = s.irqFlags := by unfold State.spriteData; dsimp only; split <;> simp
@[simp] theorem State.spriteData_cursor (s : State) (i : Fin 8) (j : Fin 3) : (s.spriteData i j).cursor = s.cursor := by unfold State.spriteData; dsimp only; split <;> simp
@[simp] theorem State.spriteData_display (s : State) (i : Fin 8) (j : Fin 3) : (s.spriteData i j).display = s.display := by unfold State.spriteData; dsimp only; split <;> simp
@[simp] theorem State.spriteData_refreshCounter (s : State) (i : Fin 8) (j : Fin 3) : (s.spriteData i j).refreshCounter = s.refreshCounter := by unfold State.spriteData; dsimp only; split <;> simp
@[simp] theorem State.spriteData_lines (s : State) (i : Fin 8) (j : Fin 3) : (s.spriteData i j).lines = s.lines := by unfold State.spriteData; dsimp only; split <;> simp
@[simp] theorem State.spriteData_collision (s : State) (i : Fin 8) (j : Fin 3) : (s.spriteData i j).collision = s.collision := by unfold State.spriteData; dsimp only; split <;> simp
@[simp] theorem State.spriteData_gfxLine (s : State) (i : Fin 8) (j : Fin 3) : (s.spriteData i j).gfxLine = s.gfxLine := by unfold State.spriteData; dsimp only; split <;> simp
@[simp] theorem State.spriteData_border (s : State) (i : Fin 8) (j : Fin 3) : (s.spriteData i j).border = s.border := by unfold State.spriteData; dsimp only; split <;> simp
@[simp] theorem State.spriteData_pen (s : State) (i : Fin 8) (j : Fin 3) : (s.spriteData i j).pen = s.pen := by unfold State.spriteData; dsimp only; split <;> simp
@[simp] theorem State.spriteData_arbiter (s : State) (i : Fin 8) (j : Fin 3) : (s.spriteData i j).arbiter = s.arbiter := by unfold State.spriteData; dsimp only; split <;> simp
@[simp] theorem State.spriteData_framebuffer (s : State) (i : Fin 8) (j : Fin 3) : (s.spriteData i j).framebuffer = s.framebuffer := by unfold State.spriteData; dsimp only; split <;> simp
@[simp] theorem State.spriteData_agenda (s : State) (i : Fin 8) (j : Fin 3) : (s.spriteData i j).agenda = s.agenda := by unfold State.spriteData; dsimp only; split <;> simp
@[simp] theorem State.spriteData_requests (s : State) (i : Fin 8) (j : Fin 3) : (s.spriteData i j).env.requests = s.env.requests := by unfold State.spriteData; dsimp only; split <;> simp
@[simp] theorem State.spriteData_penButton (s : State) (i : Fin 8) (j : Fin 3) : (s.spriteData i j).env.penButton = s.env.penButton := by unfold State.spriteData; dsimp only; split <;> simp
@[simp] theorem State.spriteData_penX (s : State) (i : Fin 8) (j : Fin 3) : (s.spriteData i j).env.penX = s.env.penX := by unfold State.spriteData; dsimp only; split <;> simp
@[simp] theorem State.spriteData_penY (s : State) (i : Fin 8) (j : Fin 3) : (s.spriteData i j).env.penY = s.env.penY := by unfold State.spriteData; dsimp only; split <;> simp
@[simp] theorem State.spriteData_videoMemory (s : State) (i : Fin 8) (j : Fin 3) : (s.spriteData i j).env.videoMemory = s.env.videoMemory := by unfold State.spriteData; dsimp only; split <;> simp
@[simp] theorem State.spriteData_colourMemory (s : State) (i : Fin 8) (j : Fin 3) : (s.spriteData i j).env.colourMemory = s.env.colourMemory := by unfold State.spriteData; dsimp only; split <;> simp
@[simp] theorem State.spriteData_portOut (s : State) (i : Fin 8) (j : Fin 3) : (s.spriteData i j).env.portOut = s.env.portOut := by unfold State.spriteData; dsimp only; split <;> simp
@[simp] theorem State.spriteData_reg (s : State) (i : Fin 8) (j : Fin 3) (c : Nat) : (s.spriteData i j).reg c = s.reg c := by simp [State.reg]

@[simp] theorem State.drawLine_params (s : State) : (s.drawLine).params = s.params := by simp [State.drawLine_eq]
@[simp] theorem State.drawLine_cursor (s : State) : (s.drawLine).cursor = s.cursor := by simp [State.drawLine_eq]
@[simp] theorem State.drawLine_display (s : State) : (s.drawLine).display = s.display := by simp [State.drawLine_eq]
@[simp] theorem State.drawLine_refreshCounter (s : State) : (s.drawLine).refreshCounter = s.refreshCounter := by simp [State.drawLine_eq]
@[simp] theorem State.drawLine_lines (s : State) : (s.drawLine).lines = s.lines := by simp [State.drawLine_eq]
@[simp] theorem State.drawLine_sprites (s : State) : (s.drawLine).sprites = s.sprites := by simp [State.drawLine_eq]
@[simp] theorem State.drawLine_gfxLine (s : State) : (s.drawLine).gfxLine = s.gfxLine := by simp [State.drawLine_eq]
@[simp] theorem State.drawLine_border (s : State) : (s.drawLine).border = s.border := by simp [State.drawLine_eq]
@[simp] theorem State.drawLine_pen (s : State) : (s.drawLine).pen = s.pen := by simp [State.drawLine_eq]
@[simp] theorem State.drawLine_arbiter (s : State) : (s.drawLine).arbiter = s.arbiter := by simp [State.drawLine_eq]
@[simp] theorem State.drawLine_agenda (s : State) : (s.drawLine).agenda = s.agenda := by simp [State.drawLine_eq]
@[simp] theorem State.drawLine_requests (s : State) : (s.drawLine).env.requests = s.env.requests := by simp [State.drawLine_eq]
@[simp] theorem State.drawLine_penButton (s : State) : (s.drawLine).env.penButton = s.env.penButton := by simp [State.drawLine_eq]
@[simp] theorem State.drawLine_penX (s : State) : (s.drawLine).env.penX = s.env.penX := by simp [State.drawLine_eq]
@[simp] theorem State.drawLine_penY (s : State) : (s.drawLine).env.penY = s.env.penY := by simp [State.drawLine_eq]
@[simp] theorem State.drawLine_videoMemory (s : State) : (s.drawLine).env.videoMemory = s.env.videoMemory := by simp [State.drawLine_eq]
@[simp] theorem State.drawLine_colourMemory (s : State) : (s.drawLine).env.colourMemory = s.env.colourMemory := by simp [State.drawLine_eq]
@[simp] theorem State.drawLine_busReads (s : State) : (s.drawLine).env.busReads = s.env.busReads := by simp [State.drawLine_eq]
@[simp] theorem State.drawLine_portOut (s : State) : (s.drawLine).env.portOut = s.env.portOut := by simp [State.drawLine_eq]

@[simp] theorem State.seizeBus_params (s : State) : (s.seizeBus).params = s.params := by unfold State.seizeBus; dsimp only; split <;> rfl
@[simp] theorem State.seizeBus_regs (s : State) : (s.seizeBus).regs = s.regs := by unfold State.seizeBus; dsimp only; split <;> rfl
@[simp] theorem State.seizeBus_irqFlags (s : State) : (s.seizeBus).irqFlags = s.irqFlags := by unfold State.seizeBus; dsimp only; split <;> rfl
@[simp] theorem State.seizeBus_cursor (s : State) : (s.seizeBus).cursor = s.cursor := by unfold State.seizeBus; dsimp only; split <;> rfl
@[simp] theorem State.seizeBus_display (s : State) : (s.seizeBus).display = s.display := by unfold State.seizeBus; dsimp only; split <;> rfl
@[simp] theorem State.seizeBus_refreshCounter (s : State) : (s.seizeBus).refreshCounter = s.refreshCounter := by unfold State.seizeBus; dsimp only; split <;> rfl
@[simp] theorem State.seizeBus_lines (s : State) : (s.seizeBus).lines = s.lines := by unfold State.seizeBus; dsimp only; split <;> rfl
@[simp] theorem State.seizeBus_sprites (s : State) : (s.seizeBus).sprites = s.sprites := by unfold State.seizeBus; dsimp only; split <;> rfl
@[simp] theorem State.seizeBus_collision (s : State) : (s.seizeBus).collision = s.collision := by unfold State.seizeBus; dsimp only; split <;> rfl
@[simp] theorem State.seizeBus_gfxLine (s : State) : (s.seizeBus).gfxLine = s.gfxLine := by unfold State.seizeBus; dsimp only; split <;> rfl
@[simp] theorem State.seizeBus_border (s : State) : (s.seizeBus).border = s.border := by unfold State.seizeBus; dsimp only; split <;> rfl
@[simp] theorem State.seizeBus_pen (s : State) : (s.seizeBus).pen = s.pen := by unfold State.seizeBus; dsimp only; split <;> rfl
@[simp] theorem State.seizeBus_framebuffer (s : State) : (s.seizeBus).framebuffer = s.framebuffer := by unfold State.seizeBus; dsimp only; split <;> rfl
@[simp] theorem State.seizeBus_agenda (s : State) : (s.seizeBus).agenda = s.agenda := by unfold State.seizeBus; dsimp only; split <;> rfl
@[simp] theorem State.seizeBus_requests (s : State) : (s.seizeBus).env.requests = s.env.requests := by unfold State.seizeBus; dsimp only; split <;> rfl
@[simp] theorem State.seizeBus_penButton (s : State) : (s.seizeBus).env.penButton = s.env.penButton := by unfold State.seizeBus; dsimp only; split <;> rfl
@[simp] theorem State.seizeBus_penX (s : State) : (s.seizeBus).env.penX = s.env.penX := by unfold State.seizeBus; dsimp only; split <;> rfl
@[simp] theorem State.seizeBus_penY (s : State) : (s.seizeBus).env.penY = s.env.penY := by unfold State.seizeBus; dsimp only; split <;> rfl
@[simp] theorem State.seizeBus_videoMemory (s : State) : (s.seizeBus).env.videoMemory = s.env.videoMemory := by unfold State.seizeBus; dsimp only; split <;> rfl
@[simp] theorem State.seizeBus_colourMemory (s : State) : (s.seizeBus).env.colourMemory = s.env.colourMemory := by unfold State.seizeBus; dsimp only; split <;> rfl
@[simp] theorem State.seizeBus_busReads (s : State) : (s.seizeBus).env.busReads = s.env.busReads := by unfold State.seizeBus; dsimp only; split <;> rfl
@[simp] theorem State.seizeBus_portOut (s : State) : (s.seizeBus).env.portOut = s.env.portOut := by unfold State.seizeBus; dsimp only; split <;> rfl
@[simp] theorem State.seizeBus_reg (s : State) (c : Nat) : (s.seizeBus).reg c = s.reg c := by simp [State.reg]

@[simp] theorem State.releaseBus_params (s : State) : (s.releaseBus).params = s.params := by unfold State.releaseBus; split_ifs <;> rfl
@[simp] theorem State.releaseBus_regs (s : State) : (s.releaseBus).regs = s.regs := by unfold State.releaseBus; split_ifs <;> rfl
@[simp] theorem State.releaseBus_irqFlags (s : State) : (s.releaseBus).irqFlags = s.irqFlags := by unfold State.releaseBus; split_ifs <;> rfl
@[simp] theorem State.releaseBus_cursor (s : State) : (s.releaseBus).cursor = s.cursor := by unfold State.releaseBus; split_ifs <;> rfl
@[simp] theorem State.releaseBus_display (s : State) : (s.releaseBus).display = s.display := by unfold State.releaseBus; split_ifs <;> rfl
@[simp] theorem State.releaseBus_refreshCounter (s : State) : (s.releaseBus).refreshCounter = s.refreshCounter := by unfold State.releaseBus; split_ifs <;> rfl
@[simp] theorem State.releaseBus_lines (s : State) : (s.releaseBus).lines = s.lines := by unfold State.releaseBus; split_ifs <;> rfl
@[simp] theorem State.releaseBus_sprites (s : State) : (s.releaseBus).sprites = s.sprites := by unfold State.releaseBus; split_ifs <;> rfl
@[simp] theorem State.releaseBus_collision (s : State) : (s.releaseBus).collision = s.collision := by unfold State.releaseBus; split_ifs <;> rfl
@[simp] theorem State.releaseBus_gfxLine (s : State) : (s.releaseBus).gfxLine = s.gfxLine := by unfold State.releaseBus; split_ifs <;> rfl
@[simp] theorem State.releaseBus_border (s : State) : (s.releaseBus).border = s.border := by unfold State.releaseBus; split_ifs <;> rfl
@[simp] theorem State.releaseBus_pen (s : State) : (s.releaseBus).pen = s.pen := by unfold State.releaseBus; split_ifs <;> rfl
@[simp] theorem State.releaseBus_framebuffer (s : State) : (s.releaseBus).framebuffer = s.framebuffer := by unfold State.releaseBus; split_ifs <;> rfl
@[simp] theorem State.releaseBus_agenda (s : State) : (s.releaseBus).agenda = s.agenda := by unfold State.releaseBus; split_ifs <;> rfl
@[simp] theorem State.releaseBus_requests (s : State) : (s.releaseBus).env.requests = s.env.requests := by unfold State.releaseBus; split_ifs <;> rfl
@[simp] theorem State.releaseBus_penButton (s : State) : (s.releaseBus).env.penButton = s.env.penButton := by unfold State.releaseBus; split_ifs <;> rfl
@[simp] theorem State.releaseBus_penX (s : State) : (s.releaseBus).env.penX = s.env.penX := by unfold State.releaseBus; split_ifs <;> rfl
@[simp] theorem State.releaseBus_penY (s : State) : (s.releaseBus).env.penY = s.env.penY := by unfold State.releaseBus; split_ifs <;> rfl
@[simp] theorem State.releaseBus_videoMemory (s : State) : (s.releaseBus).env.videoMemory = s.env.videoMemory := by unfold State.releaseBus; split_ifs <;> rfl
@[simp] theorem State.releaseBus_colourMemory (s : State) : (s.releaseBus).env.colourMemory = s.env.colourMemory := by unfold State.releaseBus; split_ifs <;> rfl
@[simp] theorem State.releaseBus_busReads (s : State) : (s.releaseBus).env.busReads = s.env.busReads := by unfold State.releaseBus; split_ifs <;> rfl
@[simp] theorem State.releaseBus_portOut (s : State) : (s.releaseBus).env.portOut = s.env.portOut := by unfold State.releaseBus; split_ifs <;> rfl
@[simp] theorem State.releaseBus_reg (s : State) (c : Nat) : (s.releaseBus).reg c = s.reg c := by simp [State.reg]

@[simp] theorem State.arbitrate_params (s : State) : (s.arbitrate).params = s.params := by unfold State.arbitrate; split <;> simp
@[simp] theorem State.arbitrate_regs (s : State) : (s.arbitrate).regs = s.regs := by unfold State.arbitrate; split <;> simp
@[simp] theorem State.arbitrate_irqFlags (s : State) : (s.arbitrate).irqFlags = s.irqFlags := by unfold State.arbitrate; split <;> simp
@[simp] theorem State.arbitrate_cursor (s : State) : (s.arbitrate).cursor = s.cursor := by unfold State.arbitrate; split <;> simp
@[simp] theorem State.arbitrate_display (s : State) : (s.arbitrate).display = s.display := by unfold State.arbitrate; split <;> simp
@[simp] theorem State.arbitrate_refreshCounter (s : State) : (s.arbitrate).refreshCounter = s.refreshCounter := by unfold State.arbitrate; split <;> simp
@[simp] theorem State.arbitrate_lines (s : State) : (s.arbitrate).lines = s.lines := by unfold State.arbitrate; split <;> simp
@[simp] theorem State.arbitrate_sprites (s : State) : (s.arbitrate).sprites = s.sprites := by unfold State.arbitrate; split <;> simp
@[simp] theorem State.arbitrate_collision (s : State) : (s.arbitrate).collision = s.collision := by unfold State.arbitrate; split <;> simp
@[simp] theorem State.arbitrate_gfxLine (s : State) : (s.arbitrate).gfxLine = s.gfxLine := by unfold State.arbitrate; split <;> simp
@[simp] theorem State.arbitrate_border (s : State) : (s.arbitrate).border = s.border := by unfold State.arbitrate; split <;> simp
@[simp] theorem State.arbitrate_pen (s : State) : (s.arbitrate).pen = s.pen := by unfold State.arbitrate; split <;> simp
@[simp] theorem State.arbitrate_framebuffer (s : State) : (s.arbitrate).framebuffer = s.framebuffer := by unfold State.arbitrate; split <;> simp
@[simp] theorem State.arbitrate_agenda (s : State) : (s.arbitrate).agenda = s.agenda := by unfold State.arbitrate; split <;> simp
@[simp] theorem State.arbitrate_requests (s : State) : (s.arbitrate).env.requests = s.env.requests := by unfold State.arbitrate; split <;> simp
@[simp] theorem State.arbitrate_penButton (s : State) : (s.arbitrate).env.penButton = s.env.penButton := by unfold State.arbitrate; split <;> simp
@[simp] theorem State.arbitrate_penX (s : State) : (s.arbitrate).env.penX = s.env.penX := by unfold State.arbitrate; split <;> simp
@[simp] theorem State.arbitrate_penY (s : State) : (s.arbitrate).env.penY = s.env.penY := by unfold State.arbitrate; split <;> simp
@[simp] theorem State.arbitrate_videoMemory (s : State) : (s.arbitrate).env.videoMemory = s.env.videoMemory := by unfold State.arbitrate; split <;> simp
@[simp] theorem State.arbitrate_colourMemory (s : State) : (s.arbitrate).env.colourMemory = s.env.colourMemory := by unfold State.arbitrate; split <;> simp
@[simp] theorem State.arbitrate_busReads (s : State) : (s.arbitrate).env.busReads = s.env.busReads := by unfold State.arbitrate; split <;> simp
@[simp] theorem State.arbitrate_portOut (s : State) : (s.arbitrate).env.portOut = s.env.portOut := by unfold State.arbitrate; split <;> simp
@[simp] theorem State.arbitrate_reg (s : State) (c : Nat) : (s.arbitrate).reg c = s.reg c := by simp [State.reg]

@[simp] theorem State.advanceLine_params (s : State) : (s.advanceLine).params = s.params := by unfold State.advanceLine; split <;> rfl
@[simp] theorem State.advanceLine_regs (s : State) : (s.advanceLine).regs = s.regs := by unfold State.advanceLine; split <;> rfl
@[simp] theorem State.advanceLine_irqFlags (s : State) : (s.advanceLine).irqFlags = s.irqFlags := by unfold State.advanceLine; split <;> rfl
@[simp] theorem State.advanceLine_lines (s : State) : (s.advanceLine).lines = s.lines := by unfold State.advanceLine; split <;> rfl
@[simp] theorem State.advanceLine_sprites (s : State) : (s.advanceLine).sprites = s.sprites := by unfold State.advanceLine; split <;> rfl
@[simp] theorem State.advanceLine_collision (s : State) : (s.advanceLine).collision = s.collision := by unfold State.advanceLine; split <;> rfl
@[simp] theorem State.advanceLine_gfxLine (s : State) : (s.advanceLine).gfxLine = s.gfxLine := by unfold State.advanceLine; split <;> rfl
@[simp] theorem State.advanceLine_border (s : State) : (s.advanceLine).border = s.border := by unfold State.advanceLine; split <;> rfl
@[simp] theorem State.advanceLine_arbiter (s : State) : (s.advanceLine).arbiter = s.arbiter := by unfold State.advanceLine; split <;> rfl
@[simp] theorem State.advanceLine_framebuffer (s : State) : (s.advanceLine).framebuffer = s.framebuffer := by unfold State.advanceLine; split <;> rfl
@[simp] theorem State.advanceLine_agenda (s : State) : (s.advanceLine).agenda = s.agenda := by unfold State.advanceLine; split <;> rfl
@[simp] theorem State.advanceLine_env (s : State) : (s.advanceLine).env = s.env := by unfold State.advanceLine; split <;> rfl
@[simp] theorem State.advanceLine_reg (s : State) (c : Nat) : (s.advanceLine).reg c = s.reg c := by simp [State.reg]

@[simp] theorem State.advanceCursor_params (s : State) : (s.advanceCursor).params = s.params := by unfold State.advanceCursor; dsimp only; split <;> simp
@[simp] theorem State.advanceCursor_regs (s : State) : (s.advanceCursor).regs = s.regs := by unfold State.advanceCursor; dsimp only; split <;> simp
@[simp] theorem State.advanceCursor_irqFlags (s : State) : (s.advanceCursor).irqFlags = s.irqFlags := by unfold State.advanceCursor; dsimp only; split <;> simp
@[simp] theorem State.advanceCursor_lines (s : State) : (s.advanceCursor).lines = s.lines := by unfold State.advanceCursor; dsimp only; split <;> simp
@[simp] theorem State.advanceCursor_sprites (s : State) : (s.advanceCursor).sprites = s.sprites := by unfold State.advanceCursor; dsimp only; split <;> simp
@[simp] theorem State.advanceCursor_collision (s : State) : (s.advanceCursor).collision = s.collision := by unfold State.advanceCursor; dsimp only; split <;> simp
@[simp] theorem State.advanceCursor_gfxLine (s : State) : (s.advanceCursor).gfxLine = s.gfxLine := by unfold State.advanceCursor; dsimp only; split <;> simp
@[simp] theorem State.advanceCursor_border (s : State) : (s.advanceCursor).border = s.border := by unfold State.advanceCursor; dsimp only; split <;> simp
@[simp] theorem State.advanceCursor_arbiter (s : State) : (s.advanceCursor).arbiter = s.arbiter := by unfold State.advanceCursor; dsimp only; split <;> simp
@[simp] theorem State.advanceCursor_framebuffer (s : State) : (s.advanceCursor).framebuffer = s.framebuffer := by unfold State.advanceCursor; dsimp only; split <;> simp
@[simp] theorem State.advanceCursor_agenda (s : State) : (s.advanceCursor).agenda = s.agenda := by unfold State.advanceCursor; dsimp only; split <;> simp
@[simp] theorem State.advanceCursor_env (s : State) : (s.advanceCursor).env = s.env := by unfold State.advanceCursor; dsimp only; split <;> simp
@[simp] theorem State.advanceCursor_reg (s : State) (c : Nat) : (s.advanceCursor).reg c = s.reg c := by simp [State.reg]

@[simp] theorem State.lightPenTrigger_params (s : State) : (s.lightPenTrigger).params = s.params := by simp [State.lightPenTrigger]
@[simp] theorem State.lightPenTrigger_cursor (s : State) : (s.lightPenTrigger).cursor = s.cursor := by simp [State.lightPenTrigger]
@[simp] theorem State.lightPenTrigger_display (s : State) : (s.lightPenTrigger).display = s.display := by simp [State.lightPenTrigger]
@[simp] theorem State.lightPenTrigger_refreshCounter (s : State) : (s.lightPenTrigger).refreshCounter = s.refreshCounter := by simp [State.lightPenTrigger]
@[simp] theorem State.lightPenTrigger_lines (s : State) : (s.lightPenTrigger).lines = s.lines := by simp [State.lightPenTrigger]
@[simp] theorem State.lightPenTrigger_sprites (s : State) : (s.lightPenTrigger).sprites = s.sprites := by simp [State.lightPenTrigger]
@[simp] theorem State.lightPenTrigger_collision (s : State) : (s.lightPenTrigger).collision = s.collision := by simp [State.lightPenTrigger]
@[simp] theorem State.lightPenTrigger_gfxLine (s : State) : (s.lightPenTrigger).gfxLine = s.gfxLine := by simp [State.lightPenTrigger]
@[simp] theorem State.lightPenTrigger_border (s : State) : (s.lightPenTrigger).border = s.border := by simp [State.lightPenTrigger]
@[simp] theorem State.lightPenTrigger_arbiter (s : State) : (s.lightPenTrigger).arbiter = s.arbiter := by simp [State.lightPenTrigger]
@[simp] theorem State.lightPenTrigger_framebuffer (s : State) : (s.lightPenTrigger).framebuffer = s.framebuffer := by simp [State.lightPenTrigger]
@[simp] theorem State.lightPenTrigger_agenda (s : State) : (s.lightPenTrigger).agenda = s.agenda := by simp [State.lightPenTrigger]
@[simp] theorem State.lightPenTrigger_requests (s : State) : (s.lightPenTrigger).env.requests = s.env.requests := by simp [State.lightPenTrigger]
@[simp] theorem State.lightPenTrigger_penButton (s : State) : (s.lightPenTrigger).env.penButton = s.env.penButton := by simp [State.lightPenTrigger]
@[simp] theorem State.lightPenTrigger_penX (s : State) : (s.lightPenTrigger).env.penX = s.env.penX := by simp [State.lightPenTrigger]
@[simp] theorem State.lightPenTrigger_penY (s : State) : (s.lightPenTrigger).env.penY = s.env.penY := by simp [State.lightPenTrigger]
@[simp] theorem State.lightPenTrigger_videoMemory (s : State) : (s.lightPenTrigger).env.videoMemory = s.env.videoMemory := by simp [State.lightPenTrigger]
@[simp] theorem State.lightPenTrigger_colourMemory (s : State) : (s.lightPenTrigger).env.colourMemory = s.env.colourMemory := by simp [State.lightPenTrigger]
@[simp] theorem State.lightPenTrigger_busReads (s : State) : (s.lightPenTrigger).env.busReads = s.env.busReads := by simp [State.lightPenTrigger]
@[simp] theorem State.lightPenTrigger_portOut (s : State) : (s.lightPenTrigger).env.portOut = s.env.portOut := by simp [State.lightPenTrigger]

@[simp] theorem State.lightPenSample_params (s : State) : (s.lightPenSample).params = s.params := by unfold State.lightPenSample; dsimp only; split <;> simp
@[simp] theorem State.lightPenSample_cursor (s : State) : (s.lightPenSample).cursor = s.cursor := by unfold State.lightPenSample; dsimp only; split <;> simp
@[simp] theorem State.lightPenSample_display (s : State) : (s.lightPenSample).display = s.display := by unfold State.lightPenSample; dsimp only; split <;> simp
@[simp] theorem State.lightPenSample_refreshCounter (s : State) : (s.lightPenSample).refreshCounter = s.refreshCounter := by unfold State.lightPenSample; dsimp only; split <;> simp
@[simp] theorem State.lightPenSample_lines (s : State) : (s.lightPenSample).lines = s.lines := by unfold State.lightPenSample; dsimp only; split <;> simp
@[simp] theorem State.lightPenSample_sprites (s : State) : (s.lightPenSample).sprites = s.sprites := by unfold State.lightPenSample; dsimp only; split <;> simp
@[simp] theorem State.lightPenSample_collision (s : State) : (s.lightPenSample).collision = s.collision := by unfold State.lightPenSample; dsimp only; split <;> simp
@[simp] theorem State.lightPenSample_gfxLine (s : State) : (s.lightPenSample).gfxLine = s.gfxLine := by unfold State.lightPenSample; dsimp only; split <;> simp
@[simp] theorem State.lightPenSample_border (s : State) : (s.lightPenSample).border = s.border := by unfold State.lightPenSample; dsimp only; split <;> simp
@[simp] theorem State.lightPenSample_arbiter (s : State) : (s.lightPenSample).arbiter = s.arbiter := by unfold State.lightPenSample; dsimp only; split <;> simp
@[simp] theorem State.lightPenSample_framebuffer (s : State) : (s.lightPenSample).framebuffer = s.framebuffer := by unfold State.lightPenSample; dsimp only; split <;> simp
@[simp] theorem State.lightPenSample_agenda (s : State) : (s.lightPenSample).agenda = s.agenda := by unfold State.lightPenSample; dsimp only; split <;> simp
@[simp] theorem State.lightPenSample_requests (s : State) : (s.lightPenSample).env.requests = s.env.requests := by unfold State.lightPenSample; dsimp only; split <;> simp
@[simp] theorem State.lightPenSample_penButton (s : State) : (s.lightPenSample).env.penButton = s.env.penButton := by unfold State.lightPenSample; dsimp only; split <;> simp
@[simp] theorem State.lightPenSample_penX (s : State) : (s.lightPenSample).env.penX = s.env.penX := by unfold State.lightPenSample; dsimp only; split <;> simp
@[simp] theorem State.lightPenSample_penY (s : State) : (s.lightPenSample).env.penY = s.env.penY := by unfold State.lightPenSample; dsimp only; split <;> simp
@[simp] theorem State.lightPenSample_videoMemory (s : State) : (s.lightPenSample).env.videoMemory = s.env.videoMemory := by unfold State.lightPenSample; dsimp only; split <;> simp
@[simp] theorem State.lightPenSample_colourMemory (s : State) : (s.lightPenSample).env.colourMemory = s.env.colourMemory := by unfold State.lightPenSample; dsimp only; split <;> simp
@[simp] theorem State.lightPenSample_busReads (s : State) : (s.lightPenSample).env.busReads = s.env.busReads := by unfold State.lightPenSample; dsimp only; split <;> simp
@[simp] theorem State.lightPenSample_portOut (s : State) : (s.lightPenSample).env.portOut = s.env.portOut := by unfold State.lightPenSample; dsimp only; split <;> simp

end Sys2Proof.Machine
end

