-- ==== Sys2Proof/Laws/PerInstr.lean ====
section
/-! SUPPORT. The family `EncodingShape`, a statement about every instruction as syntax: how many bytes stand for it
and what the first of them looks like (spec/30_encoding.md R90, R95). One lemma per constructor. -/

namespace Sys2Proof.Laws.EncodingShape

/-- The encoding has the form of its format: a port read is one byte `0 0 a`, a port write one byte `0 1 a` and the
data byte, a micro-operation one byte whose class is 0 to 6. -/
def hasShape (i : Instr) : Bool :=
  match i.format, encode i with
  | .port, [b] => !b.getLsbD 7 && !b.getLsbD 6
  | .port, [b, _] => !b.getLsbD 7 && b.getLsbD 6
  | .microOp, [b] => decide (b.extractLsb' 5 3 ≠ 7)
  | _, _ => false

/-- The family's statement. -/
def Statement (i : Instr) : Prop := hasShape i = true

theorem rd00 : Statement .rd00 := rfl
theorem wr00 (v : Byte) : Statement (.wr00 v) := rfl
theorem rd01 : Statement .rd01 := rfl
theorem wr01 (v : Byte) : Statement (.wr01 v) := rfl
theorem rd02 : Statement .rd02 := rfl
theorem wr02 (v : Byte) : Statement (.wr02 v) := rfl
theorem rd03 : Statement .rd03 := rfl
theorem wr03 (v : Byte) : Statement (.wr03 v) := rfl
theorem rd04 : Statement .rd04 := rfl
theorem wr04 (v : Byte) : Statement (.wr04 v) := rfl
theorem rd05 : Statement .rd05 := rfl
theorem wr05 (v : Byte) : Statement (.wr05 v) := rfl
theorem rd06 : Statement .rd06 := rfl
theorem wr06 (v : Byte) : Statement (.wr06 v) := rfl
theorem rd07 : Statement .rd07 := rfl
theorem wr07 (v : Byte) : Statement (.wr07 v) := rfl
theorem rd08 : Statement .rd08 := rfl
theorem wr08 (v : Byte) : Statement (.wr08 v) := rfl
theorem rd09 : Statement .rd09 := rfl
theorem wr09 (v : Byte) : Statement (.wr09 v) := rfl
theorem rd0A : Statement .rd0A := rfl
theorem wr0A (v : Byte) : Statement (.wr0A v) := rfl
theorem rd0B : Statement .rd0B := rfl
theorem wr0B (v : Byte) : Statement (.wr0B v) := rfl
theorem rd0C : Statement .rd0C := rfl
theorem wr0C (v : Byte) : Statement (.wr0C v) := rfl
theorem rd0D : Statement .rd0D := rfl
theorem wr0D (v : Byte) : Statement (.wr0D v) := rfl
theorem rd0E : Statement .rd0E := rfl
theorem wr0E (v : Byte) : Statement (.wr0E v) := rfl
theorem rd0F : Statement .rd0F := rfl
theorem wr0F (v : Byte) : Statement (.wr0F v) := rfl
theorem rd10 : Statement .rd10 := rfl
theorem wr10 (v : Byte) : Statement (.wr10 v) := rfl
theorem rd11 : Statement .rd11 := rfl
theorem wr11 (v : Byte) : Statement (.wr11 v) := rfl
theorem rd12 : Statement .rd12 := rfl
theorem wr12 (v : Byte) : Statement (.wr12 v) := rfl
theorem rd13 : Statement .rd13 := rfl
theorem wr13 (v : Byte) : Statement (.wr13 v) := rfl
theorem rd14 : Statement .rd14 := rfl
theorem wr14 (v : Byte) : Statement (.wr14 v) := rfl
theorem rd15 : Statement .rd15 := rfl
theorem wr15 (v : Byte) : Statement (.wr15 v) := rfl
theorem rd16 : Statement .rd16 := rfl
theorem wr16 (v : Byte) : Statement (.wr16 v) := rfl
theorem rd17 : Statement .rd17 := rfl
theorem wr17 (v : Byte) : Statement (.wr17 v) := rfl
theorem rd18 : Statement .rd18 := rfl
theorem wr18 (v : Byte) : Statement (.wr18 v) := rfl
theorem rd19 : Statement .rd19 := rfl
theorem wr19 (v : Byte) : Statement (.wr19 v) := rfl
theorem rd1A : Statement .rd1A := rfl
theorem wr1A (v : Byte) : Statement (.wr1A v) := rfl
theorem rd1B : Statement .rd1B := rfl
theorem wr1B (v : Byte) : Statement (.wr1B v) := rfl
theorem rd1C : Statement .rd1C := rfl
theorem wr1C (v : Byte) : Statement (.wr1C v) := rfl
theorem rd1D : Statement .rd1D := rfl
theorem wr1D (v : Byte) : Statement (.wr1D v) := rfl
theorem rd1E : Statement .rd1E := rfl
theorem wr1E (v : Byte) : Statement (.wr1E v) := rfl
theorem rd1F : Statement .rd1F := rfl
theorem wr1F (v : Byte) : Statement (.wr1F v) := rfl
theorem rd20 : Statement .rd20 := rfl
theorem wr20 (v : Byte) : Statement (.wr20 v) := rfl
theorem rd21 : Statement .rd21 := rfl
theorem wr21 (v : Byte) : Statement (.wr21 v) := rfl
theorem rd22 : Statement .rd22 := rfl
theorem wr22 (v : Byte) : Statement (.wr22 v) := rfl
theorem rd23 : Statement .rd23 := rfl
theorem wr23 (v : Byte) : Statement (.wr23 v) := rfl
theorem rd24 : Statement .rd24 := rfl
theorem wr24 (v : Byte) : Statement (.wr24 v) := rfl
theorem rd25 : Statement .rd25 := rfl
theorem wr25 (v : Byte) : Statement (.wr25 v) := rfl
theorem rd26 : Statement .rd26 := rfl
theorem wr26 (v : Byte) : Statement (.wr26 v) := rfl
theorem rd27 : Statement .rd27 := rfl
theorem wr27 (v : Byte) : Statement (.wr27 v) := rfl
theorem rd28 : Statement .rd28 := rfl
theorem wr28 (v : Byte) : Statement (.wr28 v) := rfl
theorem rd29 : Statement .rd29 := rfl
theorem wr29 (v : Byte) : Statement (.wr29 v) := rfl
theorem rd2A : Statement .rd2A := rfl
theorem wr2A (v : Byte) : Statement (.wr2A v) := rfl
theorem rd2B : Statement .rd2B := rfl
theorem wr2B (v : Byte) : Statement (.wr2B v) := rfl
theorem rd2C : Statement .rd2C := rfl
theorem wr2C (v : Byte) : Statement (.wr2C v) := rfl
theorem rd2D : Statement .rd2D := rfl
theorem wr2D (v : Byte) : Statement (.wr2D v) := rfl
theorem rd2E : Statement .rd2E := rfl
theorem wr2E (v : Byte) : Statement (.wr2E v) := rfl
theorem rd2F : Statement .rd2F := rfl
theorem rdUnused (low : Nibble) : Statement (.rdUnused low) :=
  (by decide : ∀ low : Nibble, hasShape (.rdUnused low) = true) low
theorem wr2F (v : Byte) : Statement (.wr2F v) := rfl
theorem wrUnused (low : Nibble) (v : Byte) : Statement (.wrUnused low v) :=
  (by decide : ∀ low : Nibble, hasShape (.wrUnused low 0) = true) low
theorem idle : Statement .idle := rfl
theorem refresh : Statement .refresh := rfl
theorem sptr (i : Fin 8) : Statement (.sptr i) := (by decide : ∀ i : Fin 8, hasShape (.sptr i) = true) i
theorem sdata0 (i : Fin 8) : Statement (.sdata0 i) := (by decide : ∀ i : Fin 8, hasShape (.sdata0 i) = true) i
theorem sdata1 (i : Fin 8) : Statement (.sdata1 i) := (by decide : ∀ i : Fin 8, hasShape (.sdata1 i) = true) i
theorem sdata2 (i : Fin 8) : Statement (.sdata2 i) := (by decide : ∀ i : Fin 8, hasShape (.sdata2 i) = true) i
theorem matrix : Statement .matrix := rfl
theorem gfx : Statement .gfx := rfl
theorem tRaster : Statement .tRaster := rfl
theorem tBadline : Statement .tBadline := rfl
theorem tVborder : Statement .tVborder := rfl
theorem tClearline : Statement .tClearline := rfl
theorem tVcload : Statement .tVcload := rfl
theorem tSpradv : Statement .tSpradv := rfl
theorem tYexp : Statement .tYexp := rfl
theorem tDmachk : Statement .tDmachk := rfl
theorem tDraw : Statement .tDraw := rfl
theorem tSprdisp : Statement .tSprdisp := rfl
theorem tRcadv : Statement .tRcadv := rfl
theorem tHleft (cs : Bool) : Statement (.tHleft cs) := (by decide : ∀ cs : Bool, hasShape (.tHleft cs) = true) cs
theorem tHright (cs : Bool) : Statement (.tHright cs) := (by decide : ∀ cs : Bool, hasShape (.tHright cs) = true) cs
theorem tBsample0 : Statement .tBsample0 := rfl
theorem tBsample1 : Statement .tBsample1 := rfl
theorem tBsample2 : Statement .tBsample2 := rfl
theorem tBsample3 : Statement .tBsample3 := rfl
theorem tBsample4 : Statement .tBsample4 := rfl

end Sys2Proof.Laws.EncodingShape
end

