-- ==== Sys2Proof/Laws/Step.lean ====
section
/-! SUPPORT. What one step can do, said once: the forms of a step that answers a next state, and the composition of
results. -/

namespace Sys2Proof.Machine

/-- The state without the operation an agent has just been given its turn for. -/
def State.withRequests (s : State) (r : List Request) : State := { s with env := { s.env with requests := r } }

/-- The state without the item of the step in progress that is about to run. -/
def State.withAgenda (s : State) (a : List Work) : State := { s with agenda := a }

/-- A result goes on only from a next state. -/
theorem Result.andThen_eq_next (r : Result) (f : State → Result) (t : State) :
    r.andThen f = .next t ↔ ∃ u, r = .next u ∧ f u = .next t := by
  cases r <;> simp [Result.andThen]

theorem Result.andThen_assoc (r : Result) (f g : State → Result) :
    (r.andThen f).andThen g = r.andThen fun s => (f s).andThen g := by
  cases r <;> rfl

/-- Running items in two parts is running them all. -/
theorem runWork_append (a b : List Work) (s : State) : runWork (a ++ b) s = (runWork a s).andThen (runWork b) := by
  induction a generalizing s with
  | nil => rfl
  | cons w a ih =>
    simp only [List.cons_append, runWork, Result.andThen_assoc]
    congr 1
    funext u
    exact ih u

/-- A step that answers a next state ran an instruction of the step in progress, arbitrated, advanced the cursor,
began a cycle, ran a port transaction, reset the chip, or took a change of the environment. -/
theorem step_cases (s t : State) (h : step s = .next t) :
    (∃ w rest i, s.agenda = .word w :: rest ∧ decodeMicroOp w = .ok i ∧ exec i (s.withAgenda rest) = .next t) ∨
    (∃ rest, s.agenda = .arbitrate :: rest ∧ t = (s.withAgenda rest).arbitrate) ∨
    (∃ rest, s.agenda = .advance :: rest ∧ t = (s.withAgenda rest).advanceCursor) ∨
    (∃ d r, s.agenda = [] ∧ (s.env.requests = .tick :: r ∨ s.env.requests = [] ∧ r = []) ∧
      cycleWords s.params.variant s.cursor.cycleInLine = some d ∧
      t = (s.withRequests r).lightPenSample.withAgenda d.items) ∨
    (∃ w v r i l, s.agenda = [] ∧ s.env.requests = .port w v :: r ∧ decodePort [w, v] = .ok (i, l) ∧
      exec i (s.withRequests r) = .next t) ∨
    (∃ r, s.agenda = [] ∧ s.env.requests = .reset :: r ∧ t = (s.withRequests r).resetChip) ∨
    (∃ b x y r, s.agenda = [] ∧ s.env.requests = .pen b x y :: r ∧
      t = { s with env := { s.env with requests := r, penButton := b, penX := x, penY := y } }) ∨
    (∃ a v r, s.agenda = [] ∧ s.env.requests = .memory a v :: r ∧
      t = { s with env := { s.env with
        requests := r, videoMemory := Memory.write none s.env.videoMemory a.toNat v } }) ∨
    (∃ a v r, s.agenda = [] ∧ s.env.requests = .colour a v :: r ∧
      t = { s with env := { s.env with
        requests := r, colourMemory := Memory.write none s.env.colourMemory a.toNat v } }) := by
  unfold step stepOnce at h
  split at h
  · rename_i w rest ha
    cases w with
    | word w =>
      simp only [performWork, performWord] at h
      split at h
      · rename_i i hi
        exact .inl ⟨w, rest, i, ha, hi, h⟩
      · cases h
    | arbitrate =>
      injection h with h
      exact .inr (.inl ⟨rest, ha, h.symm⟩)
    | advance =>
      injection h with h
      exact .inr (.inr (.inl ⟨rest, ha, h.symm⟩))
  · rename_i ha
    split at h
    · rename_i hr
      unfold State.beginCycle at h
      split at h
      · cases h
      · rename_i d hd
        injection h with h
        have hs : s.withRequests [] = s := by
          unfold State.withRequests
          rw [← hr]
        exact .inr (.inr (.inr (.inl ⟨d, [], ha, .inr ⟨hr, rfl⟩, hd, by rw [hs]; exact h.symm⟩)))
    · rename_i r rest hr
      cases r with
      | tick =>
        simp only [performRequest, State.beginCycle] at h
        split at h
        · cases h
        · rename_i d hd
          injection h with h
          exact .inr (.inr (.inr (.inl ⟨d, rest, ha, .inl hr, hd, h.symm⟩)))
      | port w v =>
        simp only [performRequest, performPort] at h
        split at h
        · rename_i i l hi
          exact .inr (.inr (.inr (.inr (.inl ⟨w, v, rest, i, l, ha, hr, hi, h⟩))))
        · cases h
      | reset =>
        injection h with h
        exact .inr (.inr (.inr (.inr (.inr (.inl ⟨rest, ha, hr, h.symm⟩)))))
      | pen b x y =>
        injection h with h
        exact .inr (.inr (.inr (.inr (.inr (.inr (.inl ⟨b, x, y, rest, ha, hr, h.symm⟩))))))
      | memory a v =>
        injection h with h
        exact .inr (.inr (.inr (.inr (.inr (.inr (.inr (.inl ⟨a, v, rest, ha, hr, h.symm⟩)))))))
      | colour a v =>
        injection h with h
        exact .inr (.inr (.inr (.inr (.inr (.inr (.inr (.inr ⟨a, v, rest, ha, hr, h.symm⟩)))))))

end Sys2Proof.Machine
end

