-- ==== Sys2Proof/Tests/Slice0.lean ====
section
/-! SUPPORT. Tests, with expected values from the spec's worked examples and vectors (spec/95_test_vectors.md, named
V-… below) or worked out from the cited rules: the smoke test of WellFormed, the decoding of every constructor, single
steps, and for each statement with hypotheses a state and operands that meet them. -/

namespace Sys2Proof.Tests

open Sys2Proof.Machine Sys2Proof.Claims

-- One theorem after the other: their kernel checks side by side take more memory than a check of the package has.
set_option Elab.async false

/-! ### Helpers -/

/-- A value of the next state, if there is one. -/
def after {α : Type} (r : Result) (f : State → α) : Option α :=
  match r with
  | .next s => some (f s)
  | _ => none

/-- The refusal, if the answer is one. -/
def refusal (r : Result) : Option Refusal :=
  match r with
  | .refused e => some e
  | _ => none

/-- The byte a port operation leaves for the CPU. -/
def answer (i : Instr) (s : State) : Option Byte := (after (exec i s) fun t => t.env.portOut).getD none

/-- The instruction of a micro-operation word, if it is one. -/
def microOp (w : Byte) : Option Instr :=
  match decode .microOp [w] with
  | .ok (i, []) => some i
  | _ => none

/-- The instruction of port bytes, if all of them are used. -/
def portOp (bytes : List Byte) : Option Instr :=
  match decode .port bytes with
  | .ok (i, []) => some i
  | _ => none

/-- `State.reset` at a cursor position. -/
def at_ (line : BitVec 9) (cycle : Nat) : State := { State.reset with cursor := ⟨line, cycle, 0⟩ }

/-- A state with stored register bytes. -/
def regs (s : State) (l : List (Nat × Byte)) : State := l.foldl (fun s e => s.setReg e.1 e.2) s

/-- A state in which video memory addresses answer known bytes. -/
def memory (s : State) (m : List (Nat × Byte)) : State := { s with env := { s.env with videoMemory := m } }

/-- A state in which colour memory addresses answer known nibbles. -/
def colours (s : State) (m : List (Nat × Nibble)) : State := { s with env := { s.env with colourMemory := m } }

/-- A state with one sprite unit changed. -/
def sprite (s : State) (i : Fin 8) (u : SpriteUnit) : State := { s with sprites := s.sprites.set i u }

/-- The events of a state, newest first, without their stamps. -/
def events (s : State) : List Event := s.env.events.map Prod.snd

/-- The addresses of the reads in a trace, newest first: video memory, then colour memory above it. -/
def reads (s : State) : List Nat :=
  (events s).filterMap fun e =>
    match e with
    | .memRead a _ => some a.toNat
    | .colRead a _ => some (0x10000 + a.toNat)
    | _ => none

/-- A chip other than `State.reset`: V65, 263 lines, WAIT_ADJ 2, and a CPU write of 0x0E to 0x20 waiting. -/
def other : State :=
  { State.atReset ⟨.v65, 263, 2⟩ .initial with
    env := { Environment.initial with requests := [.port 0x60 0x0E] } }

/-! ### WellFormed: each check refuses an ill-formed descriptor -/

theorem test_wellFormed_accepts :
    Descriptor.wellFormed 16 ⟨[.tSpradv], [.gfx, .matrix], []⟩ = true := by decide

theorem test_wellFormed_needs_an_operation : Descriptor.wellFormed 11 ⟨[.tRaster], [], []⟩ = false := by decide

theorem test_wellFormed_no_port_operation_in_ops : Descriptor.wellFormed 11 ⟨[], [.rd00], []⟩ = false := by decide

theorem test_wellFormed_no_trigger_in_ops : Descriptor.wellFormed 11 ⟨[], [.tDraw], []⟩ = false := by decide

theorem test_wellFormed_no_bus_operation_in_pre : Descriptor.wellFormed 11 ⟨[.idle], [.idle], []⟩ = false := by decide

theorem test_wellFormed_no_bus_operation_in_post : Descriptor.wellFormed 11 ⟨[], [.idle], [.idle]⟩ = false := by decide

theorem test_wellFormed_matrix_has_a_column :
    [14, 15, 54, 55].map (fun c => Descriptor.wellFormed c ⟨[], [.matrix], []⟩) = [false, true, true, false] := by
  decide

theorem test_wellFormed_gfx_has_a_column :
    [15, 16, 55, 56].map (fun c => Descriptor.wellFormed c ⟨[], [.gfx], []⟩) = [false, true, true, false] := by
  decide

/-! ### Decoding: the words of R91, R95 and R96, every constructor -/

/-- `RD a` is `0 : a` (R90, R91). -/
theorem test_decode_reads_from_00 :
    ([(0b0000000, .rd00), (0b0000001, .rd01), (0b0000010, .rd02), (0b0000011, .rd03),
      (0b0000100, .rd04), (0b0000101, .rd05), (0b0000110, .rd06), (0b0000111, .rd07),
      (0b0001000, .rd08), (0b0001001, .rd09), (0b0001010, .rd0A), (0b0001011, .rd0B),
      (0b0001100, .rd0C), (0b0001101, .rd0D), (0b0001110, .rd0E), (0b0001111, .rd0F)] : List (Byte × Instr)).all
      (fun e => decide (portOp [e.1] = some e.2)) = true := by decide

/-- `RD a` is `0 : a` (R90, R91). -/
theorem test_decode_reads_from_10 :
    ([(0b0010000, .rd10), (0b0010001, .rd11), (0b0010010, .rd12), (0b0010011, .rd13),
      (0b0010100, .rd14), (0b0010101, .rd15), (0b0010110, .rd16), (0b0010111, .rd17),
      (0b0011000, .rd18), (0b0011001, .rd19), (0b0011010, .rd1A), (0b0011011, .rd1B),
      (0b0011100, .rd1C), (0b0011101, .rd1D), (0b0011110, .rd1E), (0b0011111, .rd1F)] : List (Byte × Instr)).all
      (fun e => decide (portOp [e.1] = some e.2)) = true := by decide

/-- `RD a` is `0 : a` (R90, R91). -/
theorem test_decode_reads_from_20 :
    ([(0b0100000, .rd20), (0b0100001, .rd21), (0b0100010, .rd22), (0b0100011, .rd23),
      (0b0100100, .rd24), (0b0100101, .rd25), (0b0100110, .rd26), (0b0100111, .rd27),
      (0b0101000, .rd28), (0b0101001, .rd29), (0b0101010, .rd2A), (0b0101011, .rd2B),
      (0b0101100, .rd2C), (0b0101101, .rd2D), (0b0101110, .rd2E), (0b0101111, .rd2F)] : List (Byte × Instr)).all
      (fun e => decide (portOp [e.1] = some e.2)) = true := by decide

/-- `WR a` is `1 : a` and then the data byte (R90, R91). -/
theorem test_decode_writes_from_00 :
    ([(0b1000000, .wr00 0x5A), (0b1000001, .wr01 0x5A), (0b1000010, .wr02 0x5A), (0b1000011, .wr03 0x5A),
      (0b1000100, .wr04 0x5A), (0b1000101, .wr05 0x5A), (0b1000110, .wr06 0x5A), (0b1000111, .wr07 0x5A),
      (0b1001000, .wr08 0x5A), (0b1001001, .wr09 0x5A), (0b1001010, .wr0A 0x5A), (0b1001011, .wr0B 0x5A),
      (0b1001100, .wr0C 0x5A), (0b1001101, .wr0D 0x5A), (0b1001110, .wr0E 0x5A), (0b1001111, .wr0F 0x5A)] : List (Byte × Instr)).all
      (fun e => decide (portOp [e.1, 0x5A] = some e.2)) = true := by decide

/-- `WR a` is `1 : a` and then the data byte (R90, R91). -/
theorem test_decode_writes_from_10 :
    ([(0b1010000, .wr10 0x5A), (0b1010001, .wr11 0x5A), (0b1010010, .wr12 0x5A), (0b1010011, .wr13 0x5A),
      (0b1010100, .wr14 0x5A), (0b1010101, .wr15 0x5A), (0b1010110, .wr16 0x5A), (0b1010111, .wr17 0x5A),
      (0b1011000, .wr18 0x5A), (0b1011001, .wr19 0x5A), (0b1011010, .wr1A 0x5A), (0b1011011, .wr1B 0x5A),
      (0b1011100, .wr1C 0x5A), (0b1011101, .wr1D 0x5A), (0b1011110, .wr1E 0x5A), (0b1011111, .wr1F 0x5A)] : List (Byte × Instr)).all
      (fun e => decide (portOp [e.1, 0x5A] = some e.2)) = true := by decide

/-- `WR a` is `1 : a` and then the data byte (R90, R91). -/
theorem test_decode_writes_from_20 :
    ([(0b1100000, .wr20 0x5A), (0b1100001, .wr21 0x5A), (0b1100010, .wr22 0x5A), (0b1100011, .wr23 0x5A),
      (0b1100100, .wr24 0x5A), (0b1100101, .wr25 0x5A), (0b1100110, .wr26 0x5A), (0b1100111, .wr27 0x5A),
      (0b1101000, .wr28 0x5A), (0b1101001, .wr29 0x5A), (0b1101010, .wr2A 0x5A), (0b1101011, .wr2B 0x5A),
      (0b1101100, .wr2C 0x5A), (0b1101101, .wr2D 0x5A), (0b1101110, .wr2E 0x5A), (0b1101111, .wr2F 0x5A)] : List (Byte × Instr)).all
      (fun e => decide (portOp [e.1, 0x5A] = some e.2)) = true := by decide

/-- The unused range is decoded under its own rows (R91). -/
theorem test_decode_unused_range :
    portOp [0b0110000] = some (.rdUnused 0) ∧ portOp [0b0111111] = some (.rdUnused 15) ∧
    portOp [0b1110000, 0x01] = some (.wrUnused 0 0x01) ∧ portOp [0b1111111, 0x02] = some (.wrUnused 15 0x02) := by decide

/-- `class : operand`, classes 0 to 5 (R95). -/
theorem test_decode_bus_operations :
    ([(0b00000000, .idle), (0b00100000, .refresh), (0b01000000, .sptr 0), (0b01000111, .sptr 7),
      (0b01100000, .sdata0 0), (0b01111100, .sdata0 7), (0b01100001, .sdata1 0), (0b01110101, .sdata1 5),
      (0b01100010, .sdata2 0), (0b01101110, .sdata2 3), (0b10000000, .matrix), (0b10100000, .gfx)] :
      List (Byte × Instr)).all (fun e => decide (microOp e.1 = some e.2)) = true := by decide

/-- Class 6, the triggers by their number (R96). -/
theorem test_decode_triggers :
    ([(0b11000000, .tRaster), (0b11000001, .tBadline), (0b11000010, .tVborder), (0b11000011, .tClearline),
      (0b11000100, .tVcload), (0b11000101, .tSpradv), (0b11000110, .tYexp), (0b11000111, .tDmachk),
      (0b11001000, .tDraw), (0b11001001, .tSprdisp), (0b11001010, .tRcadv), (0b11001100, .tHleft false),
      (0b11001101, .tHleft true), (0b11001110, .tHright false), (0b11001111, .tHright true),
      (0b11010000, .tBsample0), (0b11010001, .tBsample1), (0b11010010, .tBsample2), (0b11010011, .tBsample3),
      (0b11010100, .tBsample4)] : List (Byte × Instr)).all (fun e => decide (microOp e.1 = some e.2)) = true := by
  decide

/-- The words R100 reserves, one of each kind, and the bytes that are no port instruction. -/
theorem test_decode_rejects_by_name :
    decodeMicroOp 0x01 = .error (.reservedMicroOp 0x01) ∧ decodeMicroOp 0x48 = .error (.reservedMicroOp 0x48) ∧
    decodeMicroOp 0x63 = .error (.reservedMicroOp 0x63) ∧ decodeMicroOp 0xCB = .error (.reservedMicroOp 0xCB) ∧
    decodeMicroOp 0xD5 = .error (.reservedMicroOp 0xD5) ∧ decodeMicroOp 0xE0 = .error (.reservedMicroOp 0xE0) ∧
    decodePort [0x80] = .error (.notAPortWord 0x80) ∧ decodePort [0x40] = .error .truncated ∧
    decodePort [] = .error .truncated := by decide

theorem test_decodeTableWord :
    decodeTableWord 8 0x5A = some (.wr1A 0) ∧ decodeTableWord 8 0xA0 = some .gfx ∧ decodeTableWord 8 0xE0 = none := by
  decide

/-- The placed instruction is the one the next step runs: WR 0x20 (R303) and T_VCLOAD (R177) change the state. -/
theorem test_withFetchWord :
    after (step (State.reset.withFetchWord 16 0x0E60)) (fun t => t.reg 0x20) = some 0x0E ∧
    after (step ({ State.reset with display := { State.reset.display with videoCounterBase := 40 } }.withFetchWord
      8 0xC4)) (fun t => t.display.videoCounter) = some 40 ∧
    (after (step (State.reset.withFetchWord 8 0xA0)) fun t => t.env.busReads) = some 1 ∧
    (after (step (State.reset.withFetchWord 8 0x80)) fun t => t.env.busReads) = some 0 := by decide +kernel

/-! ### The register port -/

/-- V-P1: the reads after reset, addresses 0x00 to 0x2F. -/
theorem test_reads_after_reset :
    portReads.map (fun i => answer i State.reset) = (
      [0, 0, 0, 0, 0, 0, 0, 0, 0, 0, 0, 0, 0, 0, 0, 0, 0, 0, 0, 0, 0, 0, 0xC0, 0, 0x01, 0x70, 0xF0, 0, 0, 0, 0, 0] ++
      List.replicate 15 0xF0 ++ [0xFF]).map some := by decide +kernel

/-- V-P2: the reads after 0xFF was written to every address. -/
theorem test_reads_after_all_ones :
    (let s := (portWrites ++ [Instr.wrUnused 0, Instr.wrUnused 15]).foldl
        (fun s w => (after (exec (w 0xFF) s) id).getD s) State.reset
     portReads.map (fun i => answer i s)) = (
     List.replicate 16 0xFF ++ [0xFF, 0x7F, 0, 0, 0, 0xFF, 0xFF, 0xFF, 0xFF, 0x70, 0xFF, 0xFF, 0xFF, 0xFF, 0, 0] ++
     List.replicate 16 0xFF).map some := by decide +kernel

/-- R318: an unused address reads 0xFF. -/
theorem test_unused_read : answer (.rdUnused 9) State.reset = some 0xFF ∧ answer .rd2F State.reset = some 0xFF := by
  decide +kernel

/-- V-P4: the sticky flags are cleared one by one, and the sink hears of the falling line once. -/
theorem test_acknowledge :
    (let s := { regs State.reset [(0x1A, 0x01)] with irqFlags := 0x5 }
     (answer .rd19 s, after (exec (.wr19 0x01) s) fun t => (t.irqFlags, events t, answer .rd19 t))) =
    (some 0xF5, some (0x4, [.setIrqLine false], some 0x74)) := by decide +kernel

/-- V-P7: a mask write raises and lowers the line at once. -/
theorem test_mask_write :
    (let s := { State.reset with irqFlags := 0x2 }
     after (exec (.wr1A 0x02) s) fun t =>
        (events t, answer .rd19 t, after (exec (.wr1A 0x00) t) fun u => (events u, answer .rd19 u))) =
    some ([.setIrqLine true], some 0xF2, some ([.setIrqLine false, .setIrqLine true], some 0x72)) := by decide +kernel

/-- V-P5: a collision register is cleared by its read, and a write changes nothing. -/
theorem test_collision_registers :
    ([(0x1E, Instr.rd1E, Instr.wr1E), (0x1F, Instr.rd1F, Instr.wr1F)] : List (Nat × Instr × (Byte → Instr))).all
      (fun e =>
        let s := regs State.reset [(e.1, 0x03)]
        decide (answer e.2.1 s = some 0x03) && decide (after (exec (e.2.2 0xFF) s) id = some s) &&
        decide ((after (exec e.2.1 s) fun t => answer e.2.1 t) = some (some 0x00))) = true := by decide +kernel

/-- V-P6: CR1 and RASTER read the raster line. -/
theorem test_raster_read :
    (let s := regs (at_ 0x105 1) [(0x11, 0x1B)]
     (answer .rd11 s, answer .rd12 s)) = (some 0x9B, some 0x05) := by decide +kernel

/-- R21: the ninth X bit of sprite 3 is bit 3 of 0x10. -/
theorem test_sprite_x :
    (regs State.reset [(0x10, 0x08), (0x06, 0x21)]).spriteX 3 = 0x121 ∧
    (regs State.reset [(0x10, 0xF7), (0x06, 0x21)]).spriteX 3 = 0x021 := by decide +kernel

/-! ### Bus operations -/

/-- V-C3, V-C4: the addresses of REFRESH and IDLE, and the counter modulo 256. -/
theorem test_refresh_and_idle :
    (after (exec .refresh State.reset) fun t => (reads t, t.refreshCounter)) = some ([0x3FFF], 0xFE) ∧
    (after (exec .refresh { State.reset with refreshCounter := 0 }) fun t => (reads t, t.refreshCounter)) =
      some ([0x3F00], 0xFF) ∧
    (after (exec .idle State.reset) fun t => reads t) = some [0x3FFF] := by decide +kernel

/-- V-S1: the pointer address of VM = 1, sprite 3, and the byte kept. -/
theorem test_sptr :
    (after (exec (.sptr 3) (memory (regs State.reset [(0x18, 0x14)]) [(0x07FB, 0x80)])) fun t =>
      (reads t, t.sprites[3].dataPointer)) = some ([0x07FB], 0x80) := by decide +kernel

/-- V-S2 with the DMA on: 0x3FFC, 0x3FFD and 0x3FFE go to the three bytes and leave mc = 63. -/
theorem test_sdata :
    (let s := sprite (memory State.reset [(0x3FFC, 0x11), (0x3FFD, 0x22), (0x3FFE, 0x33)]) 7
        ⟨0xFF, 60, 60, true, true, false, Vector.replicate 4 0⟩
     after (Result.andThen (exec (.sdata0 7) s) fun t => Result.andThen (exec (.sdata1 7) t) (exec (.sdata2 7))) fun t =>
        (reads t, t.sprites[7].fetchedData, t.sprites[7].mc)) =
    some ([0x3FFE, 0x3FFD, 0x3FFC], #v[0x11, 0x22, 0x33, 0], 63) := by decide +kernel

/-- V-S2 with the DMA off: an idle read and no change. -/
theorem test_sdata_idle :
    [Instr.sdata0 0, .sdata1 0, .sdata2 0].all (fun i =>
      decide ((after (exec i (sprite State.reset 0 ⟨0x80, 0, 5, false, true, false, Vector.replicate 4 7⟩)) fun t =>
        (reads t, t.sprites[0])) = some ([0x3FFF], ⟨0x80, 0, 5, false, true, false, Vector.replicate 4 7⟩))) = true := by
  decide +kernel

/-- V-B4: both reads of MATRIX, video memory first, into column 39; nothing on a line that is not bad. -/
theorem test_matrix :
    (let s := colours (memory (regs (at_ 0x33 54) [(0x18, 0xF0)]) [(0x3FFF, 0xAB)]) [(0x3FF, 0xC)]
     let d := { s with display := ⟨true, true, true, 0, 0x3FF, 0⟩ }
     (after (exec .matrix d) (fun t => (reads t, t.lines.matrixLine[39], t.lines.colorLine[39])),
        after (exec .matrix s) fun t => decide (t = s))) =
    (some ([0x103FF, 0x3FFF], 0xAB, 0xC), some true) := by decide +kernel

/-- R190's worked example in mode 0, its neighbours V-G1, and the idle addresses. -/
theorem test_gfx_addresses :
    (let s := { regs (at_ 0x33 16) [(0x18, 0x14)] with display := ⟨true, true, true, 0, 0, 0⟩ }
     let c := { s with lines := ⟨s.lines.matrixLine.set 0 0xC1, s.lines.colorLine⟩ }
     [s, c, regs c [(0x11, 0x40)], regs { s with display := ⟨true, true, true, 7, 0x3E7, 0⟩ } [(0x11, 0x20), (0x18, 0x08)],
        at_ 0 16, regs (at_ 0 16) [(0x11, 0x40)]].map fun s => after (exec .gfx s) reads) =
    [[0x1000], [0x1608], [0x1008], [0x3F3F], [0x3FFF], [0x39FF]].map some := by decide +kernel

/-- R193's worked example placed by V-G5: XSCROLL = 7 puts column 39 at pixels 343 to 350, and VC advances. -/
theorem test_gfx_pixels :
    (let s := { memory (regs (at_ 0x33 55) [(0x16, 0x07), (0x21, 0x06)]) [(0x0000, 0xA5)] with
        display := ⟨true, true, true, 0, 39, 0⟩
        lines := ⟨Vector.replicate 40 0, Vector.replicate 40 0xE⟩ }
     after (exec .gfx s) fun t =>
        ((t.gfxLine.gfxColor.drop 342).take 10, (t.gfxLine.gfxFg.drop 342).take 10, t.display.videoCounter)) =
    some ([0, 0xE, 6, 0xE, 6, 6, 0xE, 6, 0xE, 0],
     [false, true, false, true, false, false, true, false, true, false], 40) := by decide +kernel

/-- V-G2: the decode of 0x1B in the eight modes, `cc = 0xD`, and in mode 1 also `cc = 0x5`. -/
theorem test_decode_modes :
    (let s := regs State.reset [(0x21, 6), (0x22, 2), (0x23, 3), (0x24, 9)]
     ([(0x00, 0x00, 0xD), (0x00, 0x10, 0xD), (0x00, 0x10, 0x5), (0x20, 0x00, 0xD), (0x20, 0x10, 0xD), (0x40, 0x00, 0xD),
        (0x40, 0x10, 0xD), (0x60, 0x00, 0xD), (0x60, 0x10, 0xD)] : List (Byte × Byte × Nibble)).map fun m =>
        ((regs s [(0x11, m.1), (0x16, m.2.1)]).decodeByte 0x1B 0xC1 m.2.2).map fun p => (p.color.toNat, p.fg)) =
    (let std := [false, false, false, true, true, false, true, true]
     let multi := [false, false, false, false, true, true, true, true]
     [[6, 6, 6, 0xD, 0xD, 6, 0xD, 0xD].zip std, [6, 6, 2, 2, 3, 3, 5, 5].zip multi, [6, 6, 6, 5, 5, 6, 5, 5].zip std,
        [1, 1, 1, 0xC, 0xC, 1, 0xC, 0xC].zip std, [6, 6, 0xC, 0xC, 1, 1, 0xD, 0xD].zip multi,
        [9, 9, 9, 0xD, 0xD, 9, 0xD, 0xD].zip std, List.replicate 8 (0, false), List.replicate 8 (0, false),
        List.replicate 8 (0, false)]) := by decide +kernel

/-! ### Triggers -/

/-- V-I1: the 9-bit compare; line 5 does not match 0x105, and a masked match tells the sink nothing. -/
theorem test_raster_interrupt :
    (let s (line : BitVec 9) := regs (at_ line 1) [(0x11, 0x9B), (0x12, 0x05), (0x1A, 1)]
     ([s 0x105, s 0x005, at_ 0 1] : List State).map fun s => after (exec .tRaster s) fun t => (t.irqFlags, events t)) =
    [some (1, [.setIrqLine true]), some (0, []), some (1, [])] := by decide +kernel

/-- V-B1, row by row: line, DEN, latch before; latch after, bad line, display active. -/
theorem test_badline :
    ([(0x2F, true, false), (0x30, true, false), (0x33, true, true), (0x33, false, true), (0x33, false, false),
      (0x33, true, false), (0xF3, true, true), (0xFB, true, true), (0x133, true, true)] : List (BitVec 9 × Bool × Bool)).map
      (fun r =>
        let s := regs (at_ r.1 1) [(0x11, if r.2.1 then 0x13 else 0x03)]
        after (exec .tBadline { s with display := ⟨false, r.2.2, false, 0, 0, 0⟩ }) fun t =>
          (t.display.badLinesEnabledThisFrame, t.display.isBadLine, t.display.displayActive)) =
    [(false, false, false), (true, false, false), (true, true, true), (true, true, true), (false, false, false),
      (true, true, true), (true, true, true), (true, false, false), (true, false, false)].map some := by decide +kernel

/-- V-B2 and V-B3, the six rows of T_RCADV. -/
theorem test_video_and_row_counters :
    [true, false].map (fun bad => after (exec .tVcload { State.reset with display := ⟨bad, true, true, 5, 0, 40⟩ })
      fun t => (t.display.videoCounter, t.display.rowCounter)) = [some (40, 0), some (40, 5)] ∧
    ([(0, 40, true, true), (6, 40, false, true), (7, 40, false, true), (7, 40, true, true), (7, 0, false, false),
      (3, 0, false, false)] : List (BitVec 3 × BitVec 10 × Bool × Bool)).map
      (fun r => after (exec .tRcadv { State.reset with display := ⟨r.2.2.1, true, r.2.2.2, r.1, r.2.1, 5⟩ }) fun t =>
        (t.display.videoCounterBase, t.display.displayActive, t.display.rowCounter)) =
    [(5, true, 1), (5, true, 7), (40, false, 7), (40, true, 0), (0, false, 7), (5, false, 3)].map some := by
  decide +kernel

/-- V-G6: T_CLEARLINE fills the line with bits 3:0 of 0x21. -/
theorem test_clearline :
    (after (exec .tClearline (regs State.reset [(0x21, 0xF6)])) fun t =>
      (t.gfxLine.gfxColor.length, t.gfxLine.gfxColor.all (· == 6), t.gfxLine.gfxFg.any id)) = some (504, true, false) := by
  decide +kernel

/-- V-S4: MxYE = 1 toggles the latch, MxYE = 0 sets it. -/
theorem test_yexp :
    (after (exec .tYexp (sprite (regs State.reset [(0x17, 0x01)]) 1 { SpriteUnit.reset with yExpansionLatch := false }))
      fun t => (t.sprites[0].yExpansionLatch, t.sprites[1].yExpansionLatch)) = some (false, true) := by decide +kernel

/-- V-S3: a match on the low 8 bits turns the DMA on; a disabled sprite stays off. -/
theorem test_dmachk :
    (after (exec .tDmachk (regs (at_ 0x132 55) [(0x15, 0x01), (0x01, 0x32), (0x03, 0x32), (0x17, 0x01)])) fun t =>
      (t.sprites[0], t.sprites[1])) =
    some (⟨0, 0, 63, true, false, false, Vector.replicate 4 0⟩, SpriteUnit.reset) := by decide +kernel

/-- V-S5: 60 goes to 63 and ends the DMA; a clear latch keeps the base; a disabled sprite loses its DMA. -/
theorem test_spradv :
    (let u (base : BitVec 6) (latch : Bool) : SpriteUnit := ⟨0, base, 0, true, latch, false, Vector.replicate 4 0⟩
     after (exec .tSpradv
        (sprite (sprite (sprite (regs State.reset [(0x15, 0x03)]) 0 (u 60 true)) 1 (u 9 false)) 2 (u 0 true))) fun t =>
        [0, 1, 2].map fun i : Fin 8 => (t.sprites[i].mcBase.toNat, t.sprites[i].dmaEnabled)) =
    some [(63, false), (9, true), (3, false)] := by decide +kernel

/-- V-S6: mc is loaded; the display turns on with the Y match and off with the DMA. -/
theorem test_sprdisp :
    (let u (dma shown : Bool) : SpriteUnit := ⟨0, 6, 0, dma, true, shown, Vector.replicate 4 0⟩
     after (exec .tSprdisp (sprite (sprite (regs (at_ 0x132 58) [(0x15, 0x01), (0x01, 0x32)]) 0 (u true false)) 1
        (u false true))) fun t =>
        [0, 1].map fun i : Fin 8 => (t.sprites[i].mc.toNat, t.sprites[i].displayEnabled)) =
    some [(6, true), (6, false)] := by decide +kernel

/-- V-W1: the eight rows of T_VBORDER: RSEL, DEN, line, before; after. -/
theorem test_vborder :
    ([(true, true, 0x33, true, false), (true, false, 0x33, true, true), (true, true, 0x34, true, true),
      (true, false, 0xFB, false, true), (false, true, 0x33, true, true), (false, true, 0x37, true, false),
      (false, true, 0xF7, false, true), (false, true, 0xFB, false, false)] : List (Bool × Bool × BitVec 9 × Bool × Bool)).all
      (fun r =>
        let s := regs (at_ r.2.2.1 1) [(0x11, (if r.1 then 0x08 else 0) ||| (if r.2.1 then 0x10 else 0))]
        decide ((after (exec .tVborder { s with border := { s.border with verticalBorderOn := r.2.2.2.1 } }) fun t =>
          t.border.verticalBorderOn) = some r.2.2.2.2)) = true := by decide +kernel

/-- R252, R253: the left check needs DEN and its CSEL, the right check its CSEL only. -/
theorem test_horizontal_border :
    (let s (cr1 cr2 : Byte) := regs State.reset [(0x11, cr1), (0x16, cr2)]
     ([(s 0x10 0x08, .tHleft true), (s 0x10 0x08, .tHleft false), (s 0x10 0x00, .tHleft false), (s 0x00 0x08, .tHleft true)] :
        List (State × Instr)).map fun e => after (exec e.2 e.1) fun t => t.border.horizontalBorderOn) =
     [some false, some true, some false, some true] ∧
    (let s (cr2 : Byte) := { regs State.reset [(0x16, cr2)] with
        border := ⟨true, false, Vector.replicate 5 true, Vector.replicate 5 true⟩ }
     ([(s 0x08, .tHright true), (s 0x08, .tHright false), (s 0x00, .tHright false)] : List (State × Instr)).map fun e =>
        after (exec e.2 e.1) fun t => t.border.horizontalBorderOn) = [some true, some false, some true] := by
  decide +kernel

/-- R254: each sample takes both flip-flops and leaves the other samples. -/
theorem test_border_samples :
    (let s := { State.reset with border := ⟨false, true, Vector.replicate 5 true, Vector.replicate 5 false⟩ }
     [Instr.tBsample0, .tBsample1, .tBsample2, .tBsample3, .tBsample4].map fun i => after (exec i s) fun t =>
        (t.border.sampleV.toList.findIdx (· == false), t.border.sampleH.toList.findIdx (· == true),
          (t.border.sampleV.toList.filter (· == false)).length, (t.border.sampleH.toList.filter (· == true)).length)) =
    [(0, 0, 1, 1), (1, 1, 1, 1), (2, 2, 1, 1), (3, 3, 1, 1), (4, 4, 1, 1)].map some := by decide +kernel

/-- Two displayed sprites with all pixels set, at two X positions, without a border, graphics colour 6. -/
def overlap (v : Variant) (x0 x1 : BitVec 9) : State :=
  let u : SpriteUnit := ⟨0, 0, 0, true, true, true, #v[0xFF, 0xFF, 0xFF, 0]⟩
  { State.atReset ⟨v, 312, 0⟩ .initial with
    regs := #v[x0.extractLsb' 0 8, 0, x1.extractLsb' 0 8, 0, 0, 0, 0, 0, 0, 0, 0, 0, 0, 0, 0, 0,
      (if x0.getLsbD 8 then 1 else 0) ||| (if x1.getLsbD 8 then 2 else 0), 0, 0, 0, 0, 0, 0, 0, 0, 0, 0x04, 0, 0, 0, 0, 0,
      0x0E, 0, 0, 0, 0, 0, 0, 1, 2, 0, 0, 0, 0, 0, 0]
    sprites := #v[u, u, .reset, .reset, .reset, .reset, .reset, .reset]
    cursor := ⟨51, 58, 3270⟩
    gfxLine := ⟨List.replicate (rowPixels ⟨v, 312, 0⟩) 6, List.replicate (rowPixels ⟨v, 312, 0⟩) false⟩
    border := ⟨false, false, Vector.replicate 5 false, #v[true, false, false, false, true]⟩ }

/-- V-S8: the row `Ex24 6x76 1x24 2x10 6x210 Ex160` at both ends of its runs, another line untouched, the collision
register, the flag, and the line asserted once for 14 common columns (R239). -/
theorem test_draw :
    (after (exec .tDraw (overlap .v63 100 110)) fun t =>
      ([0, 23, 24, 99, 100, 123, 124, 133, 134, 343, 344, 503].map fun x => (t.framePixel 51 x).toNat, t.framePixel 50 100,
        t.reg 0x1E, t.irqFlags, decide (t.env.events = [(3270, .setIrqLine true)]), decide (t.framebuffer = []))) =
    some ([0xE, 0xE, 6, 6, 1, 1, 2, 2, 6, 6, 0xE, 0xE], 0, 0x03, 0x4, true, false) := by
  decide +kernel

/-- V-S9: both registers were 0, so both flags are raised; R236: a register that was not 0 raises none. -/
theorem test_collision_latch :
    (let s := (regs State.reset [(0x1A, 0x06)]).collisionLatch 0x03 0x03
     (s.reg 0x1E, s.reg 0x1F, s.irqFlags, events s)) = (0x03, 0x03, 0x6, [.setIrqLine true]) ∧
    (let s := (regs State.reset [(0x1E, 0x80)]).collisionLatch 0x03 0x00
     (s.reg 0x1E, s.reg 0x1F, s.irqFlags)) = (0x83, 0x00, 0) := by decide +kernel

/-- V-S10: the masks of the last columns of the row, where two sprites overlap from 500 or from 508 on. -/
theorem test_draw_clipping :
    ([(.v63, 0x1F0, 0x1F4), (.v63, 0x1F8, 0x1FC), (.v65, 0x1F8, 0x1FC)] : List (Variant × BitVec 9 × BitVec 9)).map
      (fun e =>
        let s := overlap e.1 e.2.1 e.2.2
        ((columns s.params).drop 499).map fun x => (s.spriteMaskAt x).toNat) =
    [[1, 3, 3, 3, 3], [0, 0, 0, 0, 0], List.replicate 5 0 ++ List.replicate 4 1 ++ List.replicate 12 3] := by
  decide +kernel

/-- V-S7: standard and multicolour row of 0xE4, 0, 0. -/
theorem test_sprite_row :
    (let s := sprite (regs State.reset [(0x27, 3), (0x25, 2), (0x26, 4)]) 0
        ⟨0, 0, 0, true, true, true, #v[0xE4, 0, 0, 0]⟩
     ((List.range 8).map (s.sourcePixel 0), (List.range 8).map ((regs s [(0x1C, 1)]).sourcePixel 0))) =
    ([some 3, some 3, some 3, none, none, some 3, none, none],
     [some 4, some 4, some 3, some 3, some 2, some 2, none, none]) := by decide +kernel

/-- V-S9: a sprite behind the foreground hides the sprite it wins over, and both collide with the foreground. -/
theorem test_draw_priority :
    (let g := (List.range 504).map fun x => decide (24 ≤ x) && decide (4 ≤ x % 8)
     let s := { regs (overlap .v63 24 36) [(0x1B, 0x01), (0x27, 3), (0x28, 5)] with
        gfxLine := ⟨g.map fun (b : Bool) => if b then 1 else 6, g⟩ }
     [24, 28, 32, 36, 39, 40, 44, 48, 59, 60, 64].map fun x =>
        ((s.outAt x).toNat, (s.spriteMaskAt x).toNat, (s.foregroundMaskAt x).toNat)) =
    [(3, 1, 0), (1, 1, 1), (3, 1, 0), (1, 3, 3), (1, 3, 3), (3, 3, 0), (1, 3, 3), (5, 2, 0), (5, 2, 0), (1, 0, 0), (6, 0, 0)] := by
  decide +kernel

/-! ### Witnesses: states and operands that meet the hypotheses of the statements -/

theorem test_witness_EveryDecodedWordIsItsEncoding :
    decode .port [0x5A, 0x02, 0x19] = .ok (.wr1A 0x02, [0x19]) ∧ decode .microOp [0xCF] = .ok (.tHright true, []) := by
  decide

theorem test_witness_StepRunsTheDecodedInstruction :
    ({ State.reset with agenda := [.word 0x7E, .advance] }.agenda = .word 0x7E :: [.advance] ∧
      decodeMicroOp 0x7E = .ok (.sdata2 7)) ∧
    (other.agenda = [] ∧ other.env.requests = .port 0x60 0x0E :: [] ∧
      decodePort [0x60, 0x0E] = .ok (.wr20 0x0E, [])) := by decide +kernel

theorem test_witness_StepsOfACycleAreItsListing :
    (at_ 0 63).agenda = [] ∧ (at_ 0 63).env.requests = [] ∧ cycleWords .v63 63 = some ⟨[], [0x69, 0x6A], []⟩ := by
  decide

theorem test_witness_StepInProgressIsAtomic :
    (after (step { State.reset with agenda := [.word 0x80], cursor := ⟨0x33, 15, 7⟩ }) fun t => t.agenda) = some [] ∧
    (after (step { State.reset with agenda := [.arbitrate, .advance] }) fun t => t.agenda) = some [.advance] := by
  decide +kernel

/-- V-I2: the edge latches X divided by 2 and Y; a button held down does not trigger again. -/
theorem test_witness_LightPenSampledFirst :
    (let s := { State.reset with env := { Environment.initial with penButton := true, penX := 511, penY := -1 } }
     s.agenda = [] ∧ s.env.requests = [] ∧ cycleWords .v63 1 = some ⟨[0xC0, 0xC1, 0xC2], [0x43, 0x6C], []⟩ ∧
     (after (step s) fun t => (t.reg 0x13, t.reg 0x14, t.irqFlags)) = some (0xFF, 0xFF, 0x8) ∧
     (after (step { s with pen := ⟨true, false⟩ }) fun t => (t.reg 0x13, t.irqFlags, events t)) =
        some (0, 0, [.lpButton true])) := by decide +kernel

/-- The four clauses, the first at both ends of the bad-line window, the others beside them. -/
theorem test_witness_ArbitrateByTheListing :
    (let bad (c : Nat) : State := { at_ 0x33 c with display := ⟨true, true, true, 0, 0, 0⟩ }
     requests (bad 12) 12 ∧ requests (bad 54) 54 ∧ ¬ requests (bad 11) 11 ∧ ¬ requests (bad 55) 55 ∧
     requests (sprite (at_ 1 2) 3 ⟨0, 0, 0, true, true, false, Vector.replicate 4 0⟩) 2) := by
  simp only [requests]; decide +kernel

/-- V-A1 and V-A2: cycle 12 suspends, cycle 55 counts down or resumes. -/
theorem test_arbitrate :
    (let s (c : Nat) (a : Arbiter) : State :=
        { at_ 0x33 c with arbiter := a, display := ⟨true, true, true, 0, 0, 0⟩, agenda := [.arbitrate] }
     [s 12 ⟨false, 9, 0, false⟩, s 13 ⟨true, 9, 0, true⟩, s 55 ⟨true, 9, 0, true⟩, s 55 ⟨true, 9, 2, true⟩,
        s 56 ⟨false, 9, 0, false⟩].map fun s => after (step s) fun t => (t.arbiter, events t)) =
    [(⟨true, 0, 0, true⟩, [.suspendCpu]), (⟨true, 9, 0, true⟩, []), (⟨false, 9, 0, false⟩, [.resumeCpu]),
     (⟨true, 9, 1, false⟩, []), (⟨false, 9, 0, false⟩, [])].map some := by decide +kernel

theorem test_witness_BusRequestWindows :
    1 ≤ 1 ∧ 1 ≤ State.reset.params.cyclesPerLine ∧ 1 ≤ 63 ∧ 63 ≤ State.reset.params.cyclesPerLine ∧
    (sprite State.reset 3 { SpriteUnit.reset with dmaEnabled := true }).busRequest 2 = true ∧
    (sprite State.reset 3 { SpriteUnit.reset with dmaEnabled := true }).busRequest 3 = false := by decide +kernel

/-- V-C1: within a line, at its end, and at the end of the frame, where the frame wrap rearms what R127 lists. -/
theorem test_witness_AdvanceCursorByTheListing :
    (let s (line : BitVec 9) (c : Nat) : State :=
        { at_ line c with agenda := [.advance], display := ⟨false, true, false, 7, 5, 5⟩, refreshCounter := 9, pen := ⟨true, true⟩ }
     [s 310 62, s 310 63, s 311 63].map fun s => after (step s) fun t =>
        (t.cursor, t.display, t.refreshCounter, t.pen)) =
    [(⟨310, 63, 1⟩, ⟨false, true, false, 7, 5, 5⟩, 9, ⟨true, true⟩), (⟨311, 1, 1⟩, ⟨false, true, false, 7, 5, 5⟩, 9, ⟨true, true⟩),
     (⟨0, 1, 1⟩, ⟨false, false, false, 7, 0, 0⟩, 0xFF, ⟨true, false⟩)].map some := by decide +kernel

theorem test_witness_CycleTablesAreTheParametrisedTable :
    cycleWords .v63 1 ≠ none ∧ cycleWords .v63 63 ≠ none ∧ cycleWords .v63 64 = none ∧ cycleWords .v65 65 ≠ none ∧
    cycleWords .v65 66 = none ∧ cycleWords .v65 0 = none := by decide

theorem test_witness_SpriteXPort : after (exec (.wr0E 0xFF) other) (fun t => answer .rd0E t) = some (some 0xFF) := by
  decide +kernel

theorem test_witness_SpriteYPort : after (exec (.wr0F 0x32) other) (fun t => answer .rd0F t) = some (some 0x32) := by
  decide +kernel

theorem test_witness_ModeAndSpriteBitsPort :
    after (exec (.wr16 0x08) other) (fun t => answer .rd16 t) = some (some 0xC8) := by decide +kernel

theorem test_witness_SharedColoursPort :
    after (exec (.wr26 0x3A) other) (fun t => answer .rd26 t) = some (some 0xFA) := by decide +kernel

theorem test_witness_SpriteColoursPort :
    after (exec (.wr2E 0x3A) other) (fun t => answer .rd2E t) = some (some 0xFA) := by decide +kernel

theorem test_witness_PortOperationsTouchOnlyTheBank :
    (Instr.wr19 0x0F).kind = .port ∧
    (after (exec (.wr19 0x0F) { regs State.reset [(0x1A, 1)] with irqFlags := 1 }) fun t => (t.irqFlags, events t)) =
      some (0, [.setIrqLine false]) ∧
    Instr.rd1E = readOperation 0x1E ∧
    (after (exec .rd1E (regs State.reset [(0x1E, 3)])) fun t => t.reg 0x1E) = some 0 := by decide +kernel

theorem test_witness_MatrixFetch :
    (at_ 0x33 15).cursor.cycleInLine = 15 + (0 : Fin 40).val ∧ (at_ 0x33 54).cursor.cycleInLine = 15 + (39 : Fin 40).val ∧
    (at_ 0x33 54).display.isBadLine = false ∧
    { at_ 0x33 54 with display := ⟨true, true, true, 0, 0, 0⟩ }.display.isBadLine = true := by decide

theorem test_witness_GraphicsFetch :
    (at_ 0x33 16).cursor.cycleInLine = 16 + (0 : Fin 40).val ∧ (at_ 0x33 55).cursor.cycleInLine = 16 + (39 : Fin 40).val ∧
    (at_ 0x33 16).gfxLine.gfxColor.length = rowPixels (at_ 0x33 16).params ∧
    (at_ 0x33 16).gfxLine.gfxFg.length = rowPixels (at_ 0x33 16).params := by decide +kernel

theorem test_witness_OffColumnRefused :
    [0, 15, 56].map (fun c => refusal (exec .gfx (at_ 0 c))) = [0, 15, 56].map (fun c => some (.noColumn c)) ∧
    [0, 14, 55].map (fun c => refusal (exec .matrix (at_ 0 c))) = [0, 14, 55].map (fun c => some (.noColumn c)) := by
  decide +kernel

theorem test_witness_BusReadsAreExactlyTheListed :
    (let s := colours (memory { at_ 0x33 15 with display := ⟨true, true, true, 0, 5, 0⟩ } [(5, 0x41)]) [(5, 0xE)]
     (after (exec .matrix s) fun t => (t.env.busReads, reads t, decide (listedReads s .matrix = (events t).reverse))) =
        some (2, [0x10005, 0x05], true) ∧
     (after (exec .matrix (at_ 0x33 54)) fun t => (t.env.busReads, events t)) = some (0, []) ∧
     [16, 55].map (fun c => after (exec .gfx (memory (at_ 0x33 c) [(0x3FFF, 1)])) events) =
        [16, 55].map fun _ => some [.memRead 0x3FFF 1]) := by
  decide +kernel

theorem test_witness_ChipWrittenPort :
    (0x1D : BitVec 6) ≠ 0x1E ∧ (0x1D : BitVec 6) ≠ 0x1F ∧ (0x20 : BitVec 6) ≠ 0x1E ∧ (0x20 : BitVec 6) ≠ 0x1F ∧
    [readOperation 0x1D, readOperation 0x20] = [.rd1D, .rd20] := by decide

theorem test_witness_BorderSamples :
    (let ops : List ((Nat × Nat) × Byte × Instr) := [((13, 1), 0xD0, .tBsample0), ((17, 0), 0xD1, .tBsample1),
        ((18, 0), 0xD2, .tBsample2), ((56, 0), 0xD3, .tBsample3), ((57, 0), 0xD4, .tBsample4)]
     ops[(0 : Fin 5).val]? = some ((13, 1), 0xD0, .tBsample0) ∧ ops[(4 : Fin 5).val]? = some ((57, 0), 0xD4, .tBsample4)) := by
  decide

theorem test_witness_DrawRunsTheLoops : 0 < rowPixels State.reset.params ∧ 503 < rowPixels State.reset.params := by decide

theorem test_witness_OverlapAssertsTheLineOnce :
    (let s := overlap .v63 480 503
     (0 : Fin 8) ≠ 1 ∧ s.sprites[(0 : Fin 8)].displayEnabled = true ∧ s.sprites[(1 : Fin 8)].displayEnabled = true ∧
     23 < spriteWidth s 0 ∧ 0 < spriteWidth s 1 ∧ spriteLeft s 0 + 23 = spriteLeft s 1 + 0 ∧
     spriteLeft s 0 + 23 < rowPixels s.params ∧ spritePixel s 0 23 = some 1 ∧ spritePixel s 1 0 = some 2 ∧
     s.regs[0x1E] = 0 ∧ flag s 0x1A 2 = true ∧ lineOf s.irqFlags s.regs[0x1A] = false) := by decide +kernel

/-- V-R1: a held CPU is released and then an asserted line lowered. -/
theorem test_witness_ResetFromAnyState :
    (let s := { regs (at_ 0x33 13) [(0x1A, 1)] with
        irqFlags := 1
        arbiter := ⟨true, 5, 0, true⟩
        env := { Environment.initial with requests := [.reset] } }
     s.agenda = [] ∧ s.env.requests = .reset :: [] ∧
     (after (step s) fun t => (events t, t.cursor, t.reg 0x1A)) =
        some ([.setIrqLine false, .resumeCpu], ⟨0, 1, 0⟩, 0)) := by decide +kernel

theorem test_witness_ConstructionByTheParameters :
    (State.construct ⟨.v63, 0xF7, 0⟩).isSome = false ∧ (State.construct ⟨.v63, 513, 0⟩).isSome = false ∧
    (State.construct ⟨.v65, 0xF8, 0⟩).isSome = true ∧ (State.construct ⟨.v65, 512, 3⟩).isSome = true := by decide +kernel

theorem test_witness_NoInstructionMovesTheCursor :
    (after (exec (.sptr 1) (memory (at_ 51 60) [(0x03F9, 0x21)])) fun t => (t.cursor, t.sprites[1].dataPointer)) =
    some (⟨51, 60, 0⟩, 0x21) := by decide +kernel

/-- T_DRAW, which changes the framebuffer, is `test_draw`. -/
theorem test_witness_EachElementHasItsWriters :
    (after (exec .refresh State.reset) fun t => decide (t.refreshCounter = 0xFF)) = some false ∧
    (after (exec .tClearline (regs State.reset [(0x21, 6)])) fun t => decide (t.gfxLine = State.reset.gfxLine)) =
      some false ∧
    (after (exec (.wr19 1) { State.reset with irqFlags := 1 }) fun t => t.irqFlags.getLsbD 0) = some false := by
  decide +kernel

/-- The two states differ in `DEN`, `RSEL`, `CSEL`, `YSCROLL`, the matrix base, the border, the bad-line state, the raster
line and column 1 of the line buffers, at both ends of the columns. -/
theorem test_witness_GraphicsIgnoresBorderAndSprites :
    ∀ k : Fin 40, k = 0 ∨ k = 39 →
    (let s := memory (at_ 0x33 (16 + k.val)) [(0x3FFF, 0xA5)]
     let s' := { regs s [(0x11, 0x9D), (0x16, 0x08), (0x18, 0xF1)] with
        border := ⟨false, false, Vector.replicate 5 false, Vector.replicate 5 false⟩
        display := ⟨true, true, false, 0, 0, 40⟩
        lines := ⟨s.lines.matrixLine.set 1 7, s.lines.colorLine.set 1 7⟩
        cursor := ⟨0x35, 16 + k.val, 9⟩ }
     (s.cursor.cycleInLine = 16 + k.val ∧ s'.cursor.cycleInLine = 16 + k.val ∧
        s'.display.displayActive = s.display.displayActive ∧ s'.lines.matrixLine[k] = s.lines.matrixLine[k] ∧
        s'.lines.colorLine[k] = s.lines.colorLine[k] ∧ s'.display.videoCounter = s.display.videoCounter ∧
        s'.display.rowCounter = s.display.rowCounter ∧ flag s' 0x11 6 = flag s 0x11 6 ∧ flag s' 0x11 5 = flag s 0x11 5 ∧
        flag s' 0x16 4 = flag s 0x16 4 ∧ s'.regs[0x16].toNat % 8 = s.regs[0x16].toNat % 8 ∧
        s'.regs[0x18].toNat / 2 % 8 = s.regs[0x18].toNat / 2 % 8 ∧
        (∀ a : Fin 47, 0x21 ≤ a → a ≤ 0x24 → colour s' a = colour s a) ∧
        (after (exec .gfx s) fun t => reads t) = some [0x3FFF]) ∧
     ∀ a, s'.memAnswer a = s.memAnswer a) := by
  rintro k (rfl | rfl) <;> exact ⟨by decide +kernel, fun _ => rfl⟩

theorem test_witness_SpriteUnitsAreIndependent :
    (let s := regs (at_ 50 55) [(0x15, 0x01), (0x01, 50)]
     let s' := regs s [(0x15, 0x03), (0x03, 50), (0x17, 0x02)]
     (s'.sprites[(0 : Fin 8)] = s.sprites[(0 : Fin 8)] ∧ s'.cursor.scanline = s.cursor.scanline ∧
        flag s' 0x15 0 = flag s 0x15 0 ∧ flag s' 0x17 0 = flag s 0x17 0 ∧ s'.spriteY 0 = s.spriteY 0) ∧
     (after (exec .tDmachk s) fun t => (t.sprites[0].dmaEnabled, t.sprites[1].dmaEnabled)) = some (true, false) ∧
     (after (exec .tDmachk s') fun t => (t.sprites[0].dmaEnabled, t.sprites[1].dmaEnabled)) = some (true, true) ∧
     (after (exec (.sptr 7) s) fun t => decide (t.sprites[6] = s.sprites[6])) = some true) := by decide +kernel

theorem test_witness_LineOnlyRisesWithinAStep :
    (after (chipStep (regs State.reset [(0x1A, 1)])) fun t => (events t).filter fun e => !isRead e) =
    some [.setIrqLine true, .lpButton false] := by decide +kernel

/-- A good state other than reset, and its trace: V65, 263 lines, a CPU write waiting. -/
theorem test_witness_GoodStatesNeverStop : other.Good where
  params := by decide
  cycleLow := by decide
  cycleHigh := by decide
  line := by decide
  colors := by decide +kernel
  foreground := by decide +kernel
  spriteHits := by decide +kernel
  foregroundHits := by decide +kernel
  frame := by decide +kernel
  rows := fun _ h => absurd h List.not_mem_nil
  sprites := fun i => ⟨by revert i; decide +kernel, by revert i; decide +kernel, by revert i; decide +kernel⟩
  flagCell := by decide +kernel
  badLine := by decide
  countdown := by decide
  requesting := by decide
  videoMemory := by decide
  colourMemory := by decide
  agenda := .inl rfl
  requests := by decide

theorem test_witness_StepKeepsGoodStates : other.Good ∧ (after (step other) fun t => t.reg 0x20) = some 0x0E :=
  ⟨test_witness_GoodStatesNeverStop, by decide +kernel⟩

/-- CycleCoverage asks for a good state between two steps. -/
theorem test_witness_CycleCoverage : other.Good ∧ other.agenda = [] := ⟨test_witness_GoodStatesNeverStop, rfl⟩

theorem test_witness_StepKeepsTheTraceGood :
    (let s := { regs State.reset [(0x1A, 1)] with
        irqFlags := 1
        arbiter := ⟨true, 0, 0, true⟩
        agenda := [.arbitrate]
        env := { Environment.initial with events := [(4, .setIrqLine true), (3, .suspendCpu)] } }
     (suspendedBy s.env.events = s.arbiter.cpuSuspended ∧ suspensionsAlternate s.env.events = true ∧
        levelTold s.env.events = s.irqLine) ∧
     (after (step s) events) = some [.resumeCpu, .setIrqLine true, .suspendCpu]) := by decide +kernel

end Sys2Proof.Tests
end

/-! PROOFS of the statements of spec/00_scope.md: how a step fetches, and what of the other agents' side a step in
progress leaves alone (R2, R121). -/

namespace Sys2Proof.Machine

-- As in the tests: proofs elaborated side by side take more memory than a check of the package has.
set_option Elab.async false

/-! ### Where a step fetches -/

/-- While an item of the step in progress is left, a step runs it. -/
theorem step_of_agenda {s : State} {w : Work} {rest : List Work} (ha : s.agenda = w :: rest) :
    step s = performWork w (s.withAgenda rest) := by
  unfold step stepOnce
  rw [ha]
  rfl

/-- Between two steps, a step runs the operation that waits first. -/
theorem step_of_requests {s : State} {r : Request} {rest : List Request} (ha : s.agenda = [])
    (hr : s.env.requests = r :: rest) : step s = performRequest r (s.withRequests rest) := by
  unfold step stepOnce State.withRequests
  rw [ha, hr]

theorem performWord_of_decode {w : Byte} {i : Instr} (h : decodeMicroOp w = .ok i) (s : State) :
    performWord w s = exec i s := by
  unfold performWord
  rw [h]

theorem performPort_of_decode {w v : Byte} {i : Instr} {l : List Byte} (h : decodePort [w, v] = .ok (i, l))
    (s : State) : performPort w v s = exec i s := by
  unfold performPort
  rw [h]

/-- Settles O6: each fetch place hands its word to the decoder, and the decoded instruction to `exec`. -/
theorem stepRunsTheDecodedInstruction : Obligations.StepRunsTheDecodedInstruction := by
  intro s i
  constructor
  · intro w rest ha hi
    calc step s = performWord w (s.withAgenda rest) := step_of_agenda ha
      _ = exec i (s.withAgenda rest) := performWord_of_decode hi _
  · intro w v l rest ha hr hi
    calc step s = performPort w v (s.withRequests rest) := step_of_requests ha hr
      _ = exec i (s.withRequests rest) := performPort_of_decode hi _

/-! ### The other agents' side -/

/-- What an item of a step in progress has to leave alone: the items after it, the operations that wait, the light-pen
inputs, and what lies behind the bus (R2). -/
structure AgentSide where
  agenda : List Work
  requests : List Request
  penButton : Bool
  penX : Int
  penY : Int
  videoMemory : List Host.Cell
  colourMemory : Memory Nibble

def State.agentSide (s : State) : AgentSide :=
  ⟨s.agenda, s.env.requests, s.env.penButton, s.env.penX, s.env.penY, s.env.videoMemory, s.env.colourMemory⟩

theorem State.agentSide_eq_iff (s t : State) :
    t.agentSide = s.agentSide ↔
      t.agenda = s.agenda ∧ t.env.requests = s.env.requests ∧ t.env.penButton = s.env.penButton ∧
      t.env.penX = s.env.penX ∧ t.env.penY = s.env.penY ∧ t.env.videoMemory = s.env.videoMemory ∧
      t.env.colourMemory = s.env.colourMemory := by
  unfold State.agentSide
  rw [AgentSide.mk.injEq]

/-- The agents' side lies in two fields, so an operation that writes neither leaves it alone. -/
theorem State.agentSide_congr {s t : State} (ha : t.agenda = s.agenda) (he : t.env = s.env) :
    t.agentSide = s.agentSide := by
  unfold State.agentSide
  rw [ha, he]

@[simp] theorem State.afterMemRead_agentSide (s : State) (a : MemAddr) :
    (s.afterMemRead a).agentSide = s.agentSide := rfl

@[simp] theorem State.idleRead_agentSide (s : State) : s.idleRead.agentSide = s.agentSide := rfl

@[simp] theorem State.portReturn_agentSide (s : State) (v : Byte) : (s.portReturn v).agentSide = s.agentSide := rfl

@[simp] theorem State.setReg_agentSide (s : State) (a : Nat) (v : Byte) : (s.setReg a v).agentSide = s.agentSide := rfl

@[simp] theorem State.mapSprites_agentSide (s : State) (f : Fin 8 → SpriteUnit → SpriteUnit) :
    (s.mapSprites f).agentSide = s.agentSide := rfl

@[simp] theorem State.mapSprite_agentSide (s : State) (i : Fin 8) (f : SpriteUnit → SpriteUnit) :
    (s.mapSprite i f).agentSide = s.agentSide := rfl

@[simp] theorem State.borderSample_agentSide (s : State) (k : Fin 5) :
    (s.borderSample k).agentSide = s.agentSide := rfl

@[simp] theorem State.reportIrq_agentSide (was : Bool) (s : State) :
    (State.reportIrq was s).agentSide = s.agentSide := by
  simp [State.agentSide_eq_iff]

@[simp] theorem State.raiseIrq_agentSide (s : State) (m : BitVec 4) : (s.raiseIrq m).agentSide = s.agentSide := by
  simp [State.agentSide_eq_iff]

@[simp] theorem State.acknowledgeIrq_agentSide (s : State) (m : BitVec 4) :
    (s.acknowledgeIrq m).agentSide = s.agentSide := by
  simp [State.agentSide_eq_iff]

@[simp] theorem State.spriteData_agentSide (s : State) (i : Fin 8) (j : Fin 3) :
    (s.spriteData i j).agentSide = s.agentSide := by
  simp [State.agentSide_eq_iff]

@[simp] theorem State.fetchColumn_agentSide (s : State) (k : Fin 40) :
    (s.fetchColumn k).agentSide = s.agentSide := by
  simp [State.agentSide_eq_iff]

@[simp] theorem State.fetchGraphics_agentSide (s : State) (k : Fin 40) :
    (s.fetchGraphics k).agentSide = s.agentSide := by
  simp [State.agentSide_eq_iff]

@[simp] theorem State.drawLine_agentSide (s : State) : s.drawLine.agentSide = s.agentSide := by
  simp [State.agentSide_eq_iff]

@[simp] theorem State.arbitrate_agentSide (s : State) : s.arbitrate.agentSide = s.agentSide := by
  simp [State.agentSide_eq_iff]

@[simp] theorem State.advanceCursor_agentSide (s : State) : s.advanceCursor.agentSide = s.agentSide := by
  simp [State.agentSide_eq_iff]

/-! ### No instruction touches the other agents' side -/

theorem execMatrix_agentSide {s t : State} (h : execMatrix s = .next t) : t.agentSide = s.agentSide := by
  unfold execMatrix at h
  split at h
  · cases h
  · cases h
    split <;> simp

theorem execGfx_agentSide {s t : State} (h : execGfx s = .next t) : t.agentSide = s.agentSide := by
  unfold execGfx at h
  split at h
  · cases h
  · cases h
    simp

theorem execTRaster_agentSide {s t : State} (h : execTRaster s = .next t) : t.agentSide = s.agentSide := by
  cases h
  split <;> simp

theorem exec_agentSide_of_port {i : Instr} {s t : State} (hk : i.kind = .port) (h : exec i s = .next t) :
    t.agentSide = s.agentSide := by
  obtain ⟨b, he⟩ | ⟨a, -, he⟩ | ⟨a, v, -, -, he⟩ | he | ⟨v, -, he⟩ | ⟨v, -, he⟩ := exec_port i s hk <;>
    · rw [he] at h
      cases h
      simp

theorem exec_agentSide_of_busOperation {i : Instr} {s t : State} (hk : i.kind = .busOperation)
    (h : exec i s = .next t) : t.agentSide = s.agentSide := by
  cases i with
  | idle => cases h; exact s.idleRead_agentSide
  | refresh => cases h; exact s.afterMemRead_agentSide _
  | sptr n => cases h; simp
  | sdata0 n => cases h; exact s.spriteData_agentSide n 0
  | sdata1 n => cases h; exact s.spriteData_agentSide n 1
  | sdata2 n => cases h; exact s.spriteData_agentSide n 2
  | matrix => exact execMatrix_agentSide h
  | gfx => exact execGfx_agentSide h
  | _ => cases hk

theorem exec_agentSide_of_trigger {i : Instr} {s t : State} (hk : i.kind = .trigger) (h : exec i s = .next t) :
    t.agentSide = s.agentSide := by
  cases i with
  | tRaster => exact execTRaster_agentSide h
  | tDraw => cases h; exact s.drawLine_agentSide
  | tBadline => cases h; exact State.agentSide_congr rfl rfl
  | tVborder => cases h; exact State.agentSide_congr rfl rfl
  | tClearline => cases h; exact State.agentSide_congr rfl rfl
  | tVcload => cases h; exact State.agentSide_congr rfl rfl
  | tRcadv => cases h; exact State.agentSide_congr rfl rfl
  | tHleft cs => cases h; exact State.agentSide_congr rfl rfl
  | tHright cs => cases h; exact State.agentSide_congr rfl rfl
  | tSpradv => cases h; exact s.mapSprites_agentSide _
  | tYexp => cases h; exact s.mapSprites_agentSide _
  | tDmachk => cases h; exact s.mapSprites_agentSide _
  | tSprdisp => cases h; exact s.mapSprites_agentSide _
  | tBsample0 => cases h; exact s.borderSample_agentSide 0
  | tBsample1 => cases h; exact s.borderSample_agentSide 1
  | tBsample2 => cases h; exact s.borderSample_agentSide 2
  | tBsample3 => cases h; exact s.borderSample_agentSide 3
  | tBsample4 => cases h; exact s.borderSample_agentSide 4
  | _ => cases hk

/-- No instruction touches the other agents' side. -/
theorem exec_agentSide {i : Instr} {s t : State} (h : exec i s = .next t) : t.agentSide = s.agentSide := by
  cases hk : i.kind with
  | port => exact exec_agentSide_of_port hk h
  | busOperation => exact exec_agentSide_of_busOperation hk h
  | trigger => exact exec_agentSide_of_trigger hk h

theorem performWord_agentSide {w : Byte} {s t : State} (h : performWord w s = .next t) :
    t.agentSide = s.agentSide := by
  unfold performWord at h
  split at h
  · exact exec_agentSide h
  · cases h

theorem performWork_agentSide {w : Work} {s t : State} (h : performWork w s = .next t) :
    t.agentSide = s.agentSide := by
  cases w with
  | word w => exact performWord_agentSide h
  | arbitrate => cases h; exact s.arbitrate_agentSide
  | advance => cases h; exact s.advanceCursor_agentSide

/-- Settles O8: the step runs the item on the state without it, and no item touches the other agents' side. -/
theorem stepInProgressIsAtomic : Obligations.StepInProgressIsAtomic := by
  intro s t w rest ha h
  rw [step_of_agenda ha] at h
  exact (State.agentSide_eq_iff (s.withAgenda rest) t).mp (performWork_agentSide h)

end Sys2Proof.Machine

/-! PROOFS of the statements of spec/10_state.md: every step keeps a good state good, the reset state is one, and which
instruction may write which element (R10 to R33, R50). -/

namespace Sys2Proof.Machine

-- As in the tests: proofs elaborated side by side take more memory than a check of the package has.
set_option Elab.async false

/-! ### Reset -/

theorem SpriteUnit.reset_good : SpriteUnit.reset.Good where
  base := by decide
  ended := by decide
  fourth := by decide

theorem cyclesPerLine_pos (p : Params) : 1 ≤ p.cyclesPerLine := by
  cases h : p.variant <;> simp [Params.cyclesPerLine, Variant.cyclesPerLine, h]

/-- The state after reset is good for every chip and every environment whose memories and requests are in order. -/
theorem State.atReset_good {p : Params} {e : Environment} (hp : p.valid = true)
    (hv : Memory.wf 0x4000 none e.videoMemory = true) (hc : Memory.wf 0x400 none e.colourMemory = true)
    (hr : ∀ r ∈ e.requests, r.valid = true) : (State.atReset p e).Good where
  params := hp
  cycleLow := Nat.le_refl 1
  cycleHigh := cyclesPerLine_pos p
  line := by
    simp only [Params.valid, Bool.and_eq_true, decide_eq_true_eq] at hp
    exact Nat.lt_of_le_of_lt (Nat.zero_le 0xF7) hp.1
  colors := List.length_replicate
  foreground := List.length_replicate
  spriteHits := List.length_replicate
  foregroundHits := List.length_replicate
  frame := Memory.wf_nil _ _
  rows := fun _ h => absurd h List.not_mem_nil
  sprites := fun i => by
    have hi : (State.atReset p e).sprites[i] = SpriteUnit.reset := by simp [State.atReset]
    exact hi ▸ SpriteUnit.reset_good
  flagCell := by simp [State.atReset, State.reg]
  badLine := by simp [State.atReset]
  countdown := Nat.zero_le _
  requesting := by simp [State.atReset]
  videoMemory := hv
  colourMemory := hc
  agenda := .inl rfl
  requests := hr

theorem State.reset_traceGood : State.reset.TraceGood where
  suspended := rfl
  alternate := rfl
  told := by decide +kernel

/-- Settles O60: the reset state is good for every chip with valid parameters, and its trace is empty. -/
theorem resetIsGood : Obligations.ResetIsGood :=
  ⟨State.atReset_good (by decide) (Memory.wf_nil _ _) (Memory.wf_nil _ _) (fun _ h => absurd h List.not_mem_nil),
    State.reset_traceGood⟩

/-! ### Updates that keep a state good

A good state speaks of few fields; an update of the others keeps it good by the same facts, and an update of one of
these asks for the facts about that field alone. -/

section Updates

variable {s : State}

theorem State.Good.emit (h : s.Good) (e : Event) : (s.emit e).Good := { h with }

theorem State.Good.afterMemRead (h : s.Good) (a : MemAddr) : (s.afterMemRead a).Good := { h with }

theorem State.Good.afterColRead (h : s.Good) (a : ColAddr) : (s.afterColRead a).Good := { h with }

theorem State.Good.portReturn (h : s.Good) (v : Byte) : (s.portReturn v).Good := { h with }

theorem State.Good.withPen (h : s.Good) (p : LightPen) : State.Good { s with pen := p } := { h with }

theorem State.Good.withBorder (h : s.Good) (b : Border) : State.Good { s with border := b } := { h with }

theorem State.Good.withRefreshCounter (h : s.Good) (c : Byte) : State.Good { s with refreshCounter := c } := { h with }

theorem State.Good.withLines (h : s.Good) (l : LineBuffers) : State.Good { s with lines := l } := { h with }

theorem State.Good.frameWrap (h : s.Good) : s.frameWrap.Good := { h with }

theorem State.Good.reportIrq (h : s.Good) (was : Bool) : (State.reportIrq was s).Good := by
  unfold State.reportIrq
  split
  · exact h
  · exact h.emit _

theorem State.Good.withIrqFlags (h : s.Good) (f : BitVec 4) : State.Good { s with irqFlags := f } := { h with }

theorem State.Good.raiseIrq (h : s.Good) (m : BitVec 4) : (s.raiseIrq m).Good := (h.withIrqFlags _).reportIrq _

theorem State.Good.acknowledgeIrq (h : s.Good) (m : BitVec 4) : (s.acknowledgeIrq m).Good :=
  (h.withIrqFlags _).reportIrq _

/-- The cell of the flag register is the one register a good state fixes. -/
theorem State.Good.setReg (h : s.Good) {a : Nat} (ha : a ≠ 0x19) (v : Byte) : (s.setReg a v).Good :=
  { h with flagCell := (State.reg_setReg_other s a 0x19 v ha).trans h.flagCell }

theorem State.Good.withDisplay (h : s.Good) {d : Display} (hd : d.isBadLine = true → d.displayActive = true) :
    State.Good { s with display := d } := { h with badLine := hd }

theorem State.Good.withGfxLine (h : s.Good) {l : GraphicsLine} (hc : l.gfxColor.length = rowPixels s.params)
    (hf : l.gfxFg.length = rowPixels s.params) : State.Good { s with gfxLine := l } :=
  { h with colors := hc, foreground := hf }

theorem State.Good.withCollision (h : s.Good) {b : CollisionBuffers}
    (hs : b.spriteCollision.length = rowPixels s.params) (hf : b.foregroundCollision.length = rowPixels s.params) :
    State.Good { s with collision := b } := { h with spriteHits := hs, foregroundHits := hf }

theorem State.Good.withArbiter (h : s.Good) {a : Arbiter} (hc : a.resumeCountdown ≤ s.params.waitAdj)
    (hr : a.busRequestedPrev = true → a.cpuSuspended = true) : State.Good { s with arbiter := a } :=
  { h with countdown := hc, requesting := hr }

theorem State.Good.mapSprites (h : s.Good) {f : Fin 8 → SpriteUnit → SpriteUnit}
    (hf : ∀ i u, u.Good → (f i u).Good) : (s.mapSprites f).Good :=
  { h with sprites := fun i => (State.mapSprites_at s f i).symm ▸ hf i _ (h.sprites i) }

theorem State.Good.mapSprite (h : s.Good) (i : Fin 8) {f : SpriteUnit → SpriteUnit} (hf : ∀ u, u.Good → (f u).Good) :
    (s.mapSprite i f).Good := by
  have hj : ∀ j : Fin 8, (s.mapSprite i f).sprites[j].Good := by
    intro j
    rw [State.mapSprite_at]
    split
    · exact hf _ (h.sprites i)
    · exact h.sprites j
  exact { h with sprites := hj }

/-- A whole row of the frame is written: the framebuffer stays canonical and its rows keep their length (R33). -/
theorem State.Good.writeRow (h : s.Good) {y : Nat} {row : List Nibble} (hy : y < s.params.totalLines)
    (hr : row.length = rowPixels s.params) : (s.writeRow y row).Good := by
  have hrows : ∀ e ∈ (s.writeRow y row).framebuffer, e.2.length = rowPixels s.params := by
    intro e he
    rcases Memory.mem_write he with ⟨rfl, -⟩ | he
    · exact hr
    · exact h.rows e he
  exact { h with frame := Memory.wf_write row h.frame hy, rows := hrows }

/-- The cursor moves only when nothing is left of the step in progress, whose descriptor belongs to its cycle. -/
theorem State.Good.withCursor (h : s.Good) (ha : s.agenda = []) {c : Cursor} (h1 : 1 ≤ c.cycleInLine)
    (h2 : c.cycleInLine ≤ s.params.cyclesPerLine) (hl : c.scanline.toNat < s.params.totalLines) :
    State.Good { s with cursor := c } :=
  { h with cycleLow := h1, cycleHigh := h2, line := hl, agenda := .inl ha }

theorem State.Good.withAgenda (h : s.Good) {a : List Work} (ha : (s.withAgenda a).AgendaGood) :
    (s.withAgenda a).Good := { h with agenda := ha }

theorem State.Good.withRequests (h : s.Good) {rs : List Request} (hr : ∀ r ∈ rs, r.valid = true) :
    (s.withRequests rs).Good := { h with requests := hr }

theorem State.Good.withPenInputs (h : s.Good) (b : Bool) (x y : Int) :
    State.Good { s with env := { s.env with penButton := b, penX := x, penY := y } } := { h with }

theorem State.Good.withVideoMemory (h : s.Good) {m : List Host.Cell} (hm : Memory.wf 0x4000 none m = true) :
    State.Good { s with env := { s.env with videoMemory := m } } := { h with videoMemory := hm }

theorem State.Good.withColourMemory (h : s.Good) {m : Memory Nibble} (hm : Memory.wf 0x400 none m = true) :
    State.Good { s with env := { s.env with colourMemory := m } } := { h with colourMemory := hm }

end Updates

/-! ### The sprite units (R216 to R221) -/

section Units

variable {u : SpriteUnit}

theorem SpriteUnit.Good.withPointer (h : u.Good) (v : Byte) : SpriteUnit.Good { u with dataPointer := v } := { h with }

/-- SDATA writes one of the first three bytes, never the fourth (R16, R217). -/
theorem SpriteUnit.Good.takeByte (h : u.Good) (j : Fin 3) (v : Byte) : (u.takeByte j v).Good := by
  have h3 : (u.takeByte j v).fetchedData[3] = u.fetchedData[3] := by
    simp only [SpriteUnit.takeByte]
    exact Vector.getElem_set_ne _ _ (by omega)
  exact { h with fourth := h3.trans h.fourth }

theorem SpriteUnit.Good.expand (h : u.Good) (yExpanded : Bool) : (u.expand yExpanded).Good := { h with }

theorem SpriteUnit.Good.updateDisplay (h : u.Good) (enabled yMatches : Bool) :
    (u.updateDisplay enabled yMatches).Good := { h with }

/-- The DMA starts with `mcBase` at 0 (R219). -/
theorem SpriteUnit.Good.startDma (h : u.Good) (enabled yMatches yExpanded : Bool) :
    (u.startDma enabled yMatches yExpanded).Good := by
  unfold SpriteUnit.startDma
  split
  · exact { h with base := rfl, ended := fun h0 => absurd h0 (by simp) }
  · exact h

/-- With the DMA on `mcBase` is at most 60, so that an advance by 3 does not wrap (R220). -/
theorem SpriteUnit.Good.advancedBase_mod (h : u.Good) (hd : u.dmaEnabled = true) : u.advancedBase.toNat % 3 = 0 := by
  have hbase := h.base
  have hne : u.mcBase.toNat ≠ 63 := fun h63 => by
    have hoff := h.ended (BitVec.eq_of_toNat_eq h63)
    rw [hd] at hoff
    cases hoff
  unfold SpriteUnit.advancedBase
  split
  · have hlt : u.mcBase.toNat + 3 < 2 ^ 6 := by omega
    rw [BitVec.toNat_add, show BitVec.toNat (3 : BitVec 6) = 3 from rfl, Nat.mod_eq_of_lt hlt]
    omega
  · exact hbase

/-- T_SPRADV ends the DMA when `mcBase` reaches 63 (R220). -/
theorem SpriteUnit.Good.advance (h : u.Good) (enabled : Bool) : (u.advance enabled).Good := by
  unfold SpriteUnit.advance
  split
  · rename_i hd
    exact { h with base := h.advancedBase_mod hd, ended := fun h63 => by simp [show u.advancedBase = 63 from h63] }
  · exact h

end Units

/-! ### The display state machine (R176 to R178) -/

theorem Display.keepActive_badLine (d : Display) (hb : d.keepActive.isBadLine = true) :
    d.keepActive.displayActive = true := by
  unfold Display.keepActive at hb ⊢
  split
  · rfl
  · rename_i h
    rw [if_neg h] at hb
    exact absurd hb h

@[simp] theorem Display.countRow_isBadLine (d : Display) : d.countRow.isBadLine = d.isBadLine := by
  unfold Display.countRow
  split <;> rfl

@[simp] theorem Display.countRow_displayActive (d : Display) : d.countRow.displayActive = d.displayActive := by
  unfold Display.countRow
  split <;> rfl

/-! ### The composed operations -/

section Composed

variable {s : State}

theorem State.Good.spriteData (h : s.Good) (i : Fin 8) (j : Fin 3) : (s.spriteData i j).Good := by
  unfold State.spriteData
  dsimp only
  split
  · exact (h.afterMemRead _).mapSprite i fun _ hu => hu.takeByte j _
  · exact h.afterMemRead _

theorem State.Good.fetchColumn (h : s.Good) (k : Fin 40) : (s.fetchColumn k).Good :=
  ((h.afterMemRead _).afterColRead _).withLines _

/-- GFX writes inside the two rows of the line buffer and keeps their lengths (R190). -/
theorem State.Good.fetchGraphics (h : s.Good) (k : Fin 40) : (s.fetchGraphics k).Good :=
  have hread := h.afterMemRead (s.gfxAddress k)
  { hread with
    colors := (writeFrom_length _ _ _).trans hread.colors
    foreground := (writeFrom_length _ _ _).trans hread.foreground }

theorem State.Good.latchCollision (h : s.Good) {a : Nat} (ha : a ≠ 0x19) (flag : BitVec 4) (mask : Byte) :
    (s.latchCollision a flag mask).Good := by
  unfold State.latchCollision
  split
  · exact h
  · dsimp only
    split
    · exact (h.raiseIrq flag).setReg ha _
    · exact h.setReg ha _

theorem State.Good.collisionLatch (h : s.Good) (ss sb : Byte) : (s.collisionLatch ss sb).Good :=
  (h.latchCollision (by decide) _ _).latchCollision (by decide) _ _

theorem columns_length (p : Params) : (columns p).length = rowPixels p := List.length_range

theorem State.Good.drawLine (h : s.Good) : s.drawLine.Good := by
  unfold State.drawLine
  have hbuffers : State.Good { s with collision := s.collisionBuffers } :=
    h.withCollision (by simp [State.collisionBuffers, columns_length])
      (by simp [State.collisionBuffers, columns_length])
  apply (hbuffers.collisionLatch _ _).writeRow
  · simpa [State.collisionLatch_eq] using h.line
  · simp [State.collisionLatch_eq, columns_length]

theorem State.Good.lightPenTrigger (h : s.Good) : s.lightPenTrigger.Good :=
  ((((h.emit _).setReg (by decide) _).emit _).setReg (by decide) _).raiseIrq _ |>.withPen _

theorem State.Good.lightPenSample (h : s.Good) : s.lightPenSample.Good := by
  unfold State.lightPenSample
  dsimp only
  split
  · exact (h.emit _).lightPenTrigger.withPen _
  · exact (h.emit _).withPen _

/-- A requesting cycle loads the countdown with `WAIT_ADJ` and suspends the CPU (R163). -/
theorem State.Good.seizeBus (h : s.Good) : s.seizeBus.Good := by
  unfold State.seizeBus
  dsimp only
  split
  · exact h.withArbiter (Nat.le_refl _) fun _ => rfl
  · exact (h.emit _).withArbiter (Nat.le_refl _) fun _ => rfl

/-- In any other cycle the countdown goes down, if at all, and no request is noted (R163). -/
theorem State.Good.releaseBus (h : s.Good) : s.releaseBus.Good := by
  unfold State.releaseBus
  split
  · split
    · exact (h.emit _).withArbiter h.countdown nofun
    · exact h.withArbiter ((Nat.sub_le _ 1).trans h.countdown) nofun
  · exact h.withArbiter h.countdown nofun

theorem State.Good.arbitrate (h : s.Good) : s.arbitrate.Good := by
  unfold State.arbitrate
  split
  · exact h.seizeBus
  · exact h.releaseBus

/-- After the last line comes line 0; before it the line counts up inside its 9 bits, since `TL` is at most 512 (R123,
R375). -/
theorem State.Good.advanceLine (h : s.Good) (ha : s.agenda = []) : s.advanceLine.Good := by
  have hvalid := h.params
  simp only [Params.valid, Bool.and_eq_true, decide_eq_true_eq] at hvalid
  unfold State.advanceLine
  split
  · exact (h.withCursor (c := { s.cursor with scanline := 0 }) ha h.cycleLow h.cycleHigh
      (Nat.lt_of_le_of_lt (Nat.zero_le 0xF7) hvalid.1)).frameWrap
  · rename_i hlast
    have hline := h.line
    have hnext : (s.cursor.scanline + 1).toNat < s.params.totalLines := by
      rw [BitVec.toNat_add, show BitVec.toNat (1 : BitVec 9) = 1 from rfl]
      omega
    exact h.withCursor ha h.cycleLow h.cycleHigh hnext

theorem State.Good.advanceCursor (h : s.Good) (ha : s.agenda = []) : s.advanceCursor.Good := by
  have hhigh := h.cycleHigh
  unfold State.advanceCursor
  dsimp only
  split
  · rename_i hlast
    exact (h.withCursor (c := ⟨s.cursor.scanline, 1, s.cursor.globalCycleCounter + 1⟩) ha (Nat.le_refl 1)
      (cyclesPerLine_pos s.params) h.line).advanceLine ha
  · rename_i hlast
    exact h.withCursor ha (Nat.succ_pos _) (by dsimp only; omega) h.line

theorem State.Good.resetChip (h : s.Good) : s.resetChip.Good := by
  have h1 : (State.atReset s.params s.env).Good :=
    State.atReset_good h.params h.videoMemory h.colourMemory h.requests
  unfold State.resetChip
  dsimp only
  split <;> split
  · exact (h1.emit _).emit _
  · exact h1.emit _
  · exact h1.emit _
  · exact h1

end Composed

/-! ### Every instruction keeps a good state good -/

section Exec

variable {s t : State} {i : Instr}

theorem execMatrix_good (hs : s.Good) (h : execMatrix s = .next t) : t.Good := by
  unfold execMatrix at h
  split at h
  · cases h
  · cases h
    split
    · exact hs.fetchColumn _
    · exact hs

theorem execGfx_good (hs : s.Good) (h : execGfx s = .next t) : t.Good := by
  unfold execGfx at h
  split at h
  · cases h
  · cases h
    exact hs.fetchGraphics _

theorem execTRaster_good (hs : s.Good) (h : execTRaster s = .next t) : t.Good := by
  cases h
  split
  · exact hs.raiseIrq _
  · exact hs

/-- A bad line turns the display on (R176). -/
theorem execTBadline_good (hs : s.Good) (h : execTBadline s = .next t) : t.Good := by
  cases h
  exact hs.withDisplay fun hb => by simp [show s.badLineCondition = true from hb]

theorem execTRcadv_good (hs : s.Good) (h : execTRcadv s = .next t) : t.Good := by
  cases h
  exact hs.withDisplay fun hb => by
    rw [Display.countRow_isBadLine] at hb
    rw [Display.countRow_displayActive]
    exact Display.keepActive_badLine _ hb

theorem exec_good_of_port (hk : i.kind = .port) (hs : s.Good) (h : exec i s = .next t) : t.Good := by
  obtain ⟨b, he⟩ | ⟨a, ha, he⟩ | ⟨a, v, -, ha, he⟩ | he | ⟨v, -, he⟩ | ⟨v, -, he⟩ := exec_port i s hk <;>
    rw [he] at h <;> cases h
  · exact hs.portReturn b
  · exact (hs.portReturn _).setReg (by omega) 0
  · exact hs.setReg (fun h19 => ha (by simp [h19])) v
  · exact hs
  · exact hs.acknowledgeIrq _
  · exact (hs.setReg (by decide) v).reportIrq _

theorem exec_good_of_busOperation (hk : i.kind = .busOperation) (hs : s.Good) (h : exec i s = .next t) : t.Good := by
  cases i with
  | idle => cases h; exact hs.afterMemRead _
  | refresh => cases h; exact (hs.afterMemRead _).withRefreshCounter _
  | sptr n => cases h; exact (hs.afterMemRead _).mapSprite n fun _ hu => hu.withPointer _
  | sdata0 n => cases h; exact hs.spriteData n 0
  | sdata1 n => cases h; exact hs.spriteData n 1
  | sdata2 n => cases h; exact hs.spriteData n 2
  | matrix => exact execMatrix_good hs h
  | gfx => exact execGfx_good hs h
  | _ => cases hk

theorem exec_good_of_trigger (hk : i.kind = .trigger) (hs : s.Good) (h : exec i s = .next t) : t.Good := by
  cases i with
  | tRaster => exact execTRaster_good hs h
  | tBadline => exact execTBadline_good hs h
  | tRcadv => exact execTRcadv_good hs h
  | tVcload => cases h; exact hs.withDisplay hs.badLine
  | tClearline => cases h; exact hs.withGfxLine List.length_replicate List.length_replicate
  | tDraw => cases h; exact hs.drawLine
  | tSpradv => cases h; exact hs.mapSprites fun _ _ hu => hu.advance _
  | tYexp => cases h; exact hs.mapSprites fun _ _ hu => hu.expand _
  | tDmachk => cases h; exact hs.mapSprites fun _ _ hu => hu.startDma _ _ _
  | tSprdisp => cases h; exact hs.mapSprites fun _ _ hu => hu.updateDisplay _ _
  | tVborder => cases h; exact hs.withBorder _
  | tHleft cs => cases h; exact hs.withBorder _
  | tHright cs => cases h; exact hs.withBorder _
  | tBsample0 => cases h; exact hs.withBorder _
  | tBsample1 => cases h; exact hs.withBorder _
  | tBsample2 => cases h; exact hs.withBorder _
  | tBsample3 => cases h; exact hs.withBorder _
  | tBsample4 => cases h; exact hs.withBorder _
  | _ => cases hk

theorem exec_good (hs : s.Good) (h : exec i s = .next t) : t.Good := by
  cases hk : i.kind with
  | port => exact exec_good_of_port hk hs h
  | busOperation => exact exec_good_of_busOperation hk hs h
  | trigger => exact exec_good_of_trigger hk hs h

end Exec

/-! ### The step in progress (R121) -/

section Agenda

variable {s : State} {w : Work} {rest : List Work}

/-- What is left of a step after one of its items is again the end of its descriptor. -/
theorem State.AgendaGood.tail (h : s.AgendaGood) (ha : s.agenda = w :: rest) : (s.withAgenda rest).AgendaGood := by
  rcases h with hnil | ⟨d, hd, hsuffix⟩
  · rw [ha] at hnil
    cases hnil
  · exact .inr ⟨d, hd, (List.suffix_cons w rest).trans (ha ▸ hsuffix)⟩

/-- The cursor advance is the last item of every step: nothing comes after it. -/
theorem CycleWords.nil_of_advance_suffix {d : CycleWords} (h : .advance :: rest <:+ d.items) : rest = [] := by
  obtain ⟨front, hfront⟩ := h
  rcases List.eq_nil_or_concat rest with hnil | ⟨init, last, rfl⟩
  · exact hnil
  · have hinit : front ++ .advance :: init =
        d.pre.map Work.word ++ [Work.arbitrate] ++ d.ops.map Work.word ++ d.post.map Work.word :=
      (List.append_inj' (t₁ := [last]) (t₂ := [Work.advance]) (by simpa [CycleWords.items] using hfront) rfl).1
    have hmem : Work.advance ∈ front ++ .advance :: init := by simp
    rw [hinit] at hmem
    simp at hmem

theorem State.AgendaGood.nil_of_advance (h : s.AgendaGood) (ha : s.agenda = .advance :: rest) : rest = [] := by
  rcases h with hnil | ⟨d, -, hsuffix⟩
  · rw [ha] at hnil
    cases hnil
  · exact CycleWords.nil_of_advance_suffix (ha ▸ hsuffix)

theorem State.Good.nextItem (h : s.Good) (ha : s.agenda = w :: rest) : (s.withAgenda rest).Good :=
  h.withAgenda (h.agenda.tail ha)

theorem State.Good.nextRequest (h : s.Good) {r : Request} {rs : List Request} (hr : s.env.requests = r :: rs) :
    (s.withRequests rs).Good :=
  h.withRequests fun q hq => h.requests q (hr ▸ List.mem_cons_of_mem r hq)

/-- A new step holds all items of the descriptor of its cycle. -/
theorem State.Good.beginCycle (h : s.Good) {d : CycleWords}
    (hd : cycleWords s.params.variant s.cursor.cycleInLine = some d) : (s.lightPenSample.withAgenda d.items).Good :=
  h.lightPenSample.withAgenda <| .inr ⟨d, by
    show cycleWords s.lightPenSample.params.variant s.lightPenSample.cursor.cycleInLine = some d
    rw [State.lightPenSample_params, State.lightPenSample_cursor, hd], List.suffix_rfl⟩

end Agenda

/-- Settles O58, along what a step can do: each item, request and instruction keeps a good state good. -/
theorem stepKeepsGoodStates : Obligations.StepKeepsGoodStates := by
  intro s t hs h
  obtain ⟨w, rest, i, ha, -, he⟩ | ⟨rest, ha, rfl⟩ | ⟨rest, ha, rfl⟩ | ⟨d, r, -, hr, hd, rfl⟩ |
    ⟨w, v, r, i, l, -, hr, -, he⟩ | ⟨r, -, hr, rfl⟩ | ⟨b, x, y, r, -, hr, rfl⟩ | ⟨a, v, r, -, hr, rfl⟩ |
    ⟨a, v, r, -, hr, rfl⟩ := step_cases s t h
  case inl => exact exec_good (hs.nextItem ha) he
  · exact (hs.nextItem ha).arbitrate
  · exact (hs.nextItem ha).advanceCursor (hs.agenda.nil_of_advance ha)
  · rcases hr with hr | ⟨-, rfl⟩
    · exact (hs.nextRequest hr).beginCycle hd
    · exact (hs.withRequests fun _ hq => absurd hq List.not_mem_nil).beginCycle hd
  · exact exec_good (hs.nextRequest hr) he
  · exact (hs.nextRequest hr).resetChip
  · exact (hs.nextRequest hr).withPenInputs b x y
  · exact (hs.nextRequest hr).withVideoMemory (Memory.wf_write v hs.videoMemory a.isLt)
  · exact (hs.nextRequest hr).withColourMemory (Memory.wf_write v hs.colourMemory a.isLt)

/-! ### Who writes what (R10, R14, R15, R17, R18, R30, R33) -/

/-- T_DRAW writes the two collision registers of the bank and no other (R236). -/
theorem State.drawLine_reg_other (s : State) {a : Nat} (h1 : a ≠ 0x1E) (h2 : a ≠ 0x1F) :
    s.drawLine.reg a = s.reg a := by
  rw [State.drawLine_eq]
  simp [State.reg, h1.symm, h2.symm]

theorem State.raiseIrq_keeps_flag (s : State) (m : BitVec 4) {k : Nat} (hk : s.irqFlags.getLsbD k = true) :
    (s.raiseIrq m).irqFlags.getLsbD k = true := by
  simp [State.raiseIrq_irqFlags, hk]

/-- T_DRAW raises flags and clears none (R236, R341). -/
theorem State.drawLine_keeps_flag (s : State) {k : Nat} (hk : s.irqFlags.getLsbD k = true) :
    s.drawLine.irqFlags.getLsbD k = true := by
  rw [State.drawLine_eq]
  exact s.raiseIrq_keeps_flag _ hk

/-- What an instruction leaves alone by the writers' rules: each guarded element, unless the instruction is one of its
writers. -/
structure WritersRespected (i : Instr) (s t : State) : Prop where
  framebuffer : i ≠ .tDraw → t.framebuffer = s.framebuffer
  collision : i ≠ .tDraw → t.collision = s.collision
  lines : i ≠ .matrix → t.lines = s.lines
  gfxLine : i ≠ .gfx → i ≠ .tClearline → t.gfxLine = s.gfxLine
  refreshCounter : i ≠ .refresh → t.refreshCounter = s.refreshCounter
  regs : i.kind ≠ .port → ∀ a, a ≠ 0x1E → a ≠ 0x1F → t.reg a = s.reg a
  flags : (∀ v, i ≠ .wr19 v) → ∀ k : Fin 4, s.irqFlags.getLsbD k = true → t.irqFlags.getLsbD k = true

section Writers

variable {i : Instr} {s t : State}

/-- An instruction that writes no guarded element respects every rule. An operation that writes some is shown to do so
from here by the rules of these elements alone. -/
theorem WritersRespected.refl (i : Instr) (s : State) : WritersRespected i s s where
  framebuffer _ := rfl
  collision _ := rfl
  lines _ := rfl
  gfxLine _ _ := rfl
  refreshCounter _ := rfl
  regs _ _ _ _ := rfl
  flags _ _ hk := hk

theorem WritersRespected.reportIrq (h : WritersRespected i s t) (was : Bool) :
    WritersRespected i s (State.reportIrq was t) := by
  unfold State.reportIrq
  split
  · exact h
  · exact { h with }

theorem WritersRespected.withIrqFlags {f : BitVec 4}
    (hf : (∀ v, i ≠ .wr19 v) → ∀ k : Fin 4, s.irqFlags.getLsbD k = true → f.getLsbD k = true) :
    WritersRespected i s { s with irqFlags := f } := { WritersRespected.refl i s with flags := hf }

theorem WritersRespected.raiseIrq (i : Instr) (s : State) (m : BitVec 4) : WritersRespected i s (s.raiseIrq m) :=
  (WritersRespected.withIrqFlags fun _ _ hk => by simp [hk]).reportIrq _

/-- Acknowledging flags is for WR 0x19 alone (R296). -/
theorem WritersRespected.acknowledgeIrq (v : Byte) (s : State) (m : BitVec 4) :
    WritersRespected (.wr19 v) s (s.acknowledgeIrq m) :=
  (WritersRespected.withIrqFlags fun hne => absurd rfl (hne v)).reportIrq _

theorem WritersRespected.spriteData (i : Instr) (s : State) (n : Fin 8) (j : Fin 3) :
    WritersRespected i s (s.spriteData n j) := by
  unfold State.spriteData
  dsimp only
  split <;> exact { WritersRespected.refl i s with }

/-- A port operation may store in the bank, and WR 0x19 acknowledges flags. -/
theorem exec_writers_of_port (hk : i.kind = .port) (h : exec i s = .next t) : WritersRespected i s t := by
  have hstore (a : Nat) (v : Byte) : WritersRespected i s (s.setReg a v) :=
    { WritersRespected.refl i s with regs := fun hne => absurd hk hne }
  obtain ⟨b, he⟩ | ⟨a, -, he⟩ | ⟨a, v, -, -, he⟩ | he | ⟨v, rfl, he⟩ | ⟨v, -, he⟩ := exec_port i s hk <;>
    rw [he] at h <;> cases h
  · exact { WritersRespected.refl i s with }
  · exact { hstore a 0 with }
  · exact hstore a v
  · exact WritersRespected.refl i s
  · exact WritersRespected.acknowledgeIrq v s _
  · exact (hstore 0x1A v).reportIrq _

theorem fetchColumn_writers (s : State) (k : Fin 40) : WritersRespected .matrix s (s.fetchColumn k) where
  framebuffer _ := s.fetchColumn_framebuffer k
  collision _ := s.fetchColumn_collision k
  lines hne := absurd rfl hne
  gfxLine _ _ := s.fetchColumn_gfxLine k
  refreshCounter _ := s.fetchColumn_refreshCounter k
  regs _ a _ _ := s.fetchColumn_reg k a
  flags _ _ hk := (congrArg (BitVec.getLsbD · _) (s.fetchColumn_irqFlags k)).trans hk

theorem execMatrix_writers (h : execMatrix s = .next t) : WritersRespected .matrix s t := by
  unfold execMatrix at h
  split at h <;> cases h
  split
  · exact fetchColumn_writers s _
  · exact WritersRespected.refl .matrix s

theorem execGfx_writers (h : execGfx s = .next t) : WritersRespected .gfx s t := by
  unfold execGfx at h
  split at h <;> cases h
  exact { WritersRespected.refl .gfx s with gfxLine := fun hne => absurd rfl hne }

theorem exec_writers_of_busOperation (hk : i.kind = .busOperation) (h : exec i s = .next t) :
    WritersRespected i s t := by
  cases i with
  | idle => cases h; exact { WritersRespected.refl .idle s with }
  | refresh =>
    cases h
    exact { WritersRespected.refl .refresh s with refreshCounter := fun hne => absurd rfl hne }
  | sptr n => cases h; exact { WritersRespected.refl (.sptr n) s with }
  | sdata0 n => cases h; exact WritersRespected.spriteData _ s n 0
  | sdata1 n => cases h; exact WritersRespected.spriteData _ s n 1
  | sdata2 n => cases h; exact WritersRespected.spriteData _ s n 2
  | matrix => exact execMatrix_writers h
  | gfx => exact execGfx_writers h
  | _ => cases hk

theorem execTRaster_writers (h : execTRaster s = .next t) : WritersRespected .tRaster s t := by
  cases h
  split
  · exact WritersRespected.raiseIrq .tRaster s flagRaster
  · exact WritersRespected.refl .tRaster s

theorem drawLine_writers (s : State) : WritersRespected .tDraw s s.drawLine where
  framebuffer hne := absurd rfl hne
  collision hne := absurd rfl hne
  lines _ := s.drawLine_lines
  gfxLine _ _ := s.drawLine_gfxLine
  refreshCounter _ := s.drawLine_refreshCounter
  regs _ _ h1 h2 := s.drawLine_reg_other h1 h2
  flags _ _ hk := s.drawLine_keeps_flag hk

theorem exec_writers_of_trigger (hk : i.kind = .trigger) (h : exec i s = .next t) : WritersRespected i s t := by
  cases i with
  | tRaster => exact execTRaster_writers h
  | tDraw => cases h; exact drawLine_writers s
  | tClearline =>
    cases h
    exact { WritersRespected.refl .tClearline s with gfxLine := fun _ hne => absurd rfl hne }
  | tBadline => cases h; exact { WritersRespected.refl .tBadline s with }
  | tVborder => cases h; exact { WritersRespected.refl .tVborder s with }
  | tVcload => cases h; exact { WritersRespected.refl .tVcload s with }
  | tSpradv => cases h; exact { WritersRespected.refl .tSpradv s with }
  | tYexp => cases h; exact { WritersRespected.refl .tYexp s with }
  | tDmachk => cases h; exact { WritersRespected.refl .tDmachk s with }
  | tSprdisp => cases h; exact { WritersRespected.refl .tSprdisp s with }
  | tRcadv => cases h; exact { WritersRespected.refl .tRcadv s with }
  | tHleft cs => cases h; exact { WritersRespected.refl (.tHleft cs) s with }
  | tHright cs => cases h; exact { WritersRespected.refl (.tHright cs) s with }
  | tBsample0 => cases h; exact { WritersRespected.refl .tBsample0 s with }
  | tBsample1 => cases h; exact { WritersRespected.refl .tBsample1 s with }
  | tBsample2 => cases h; exact { WritersRespected.refl .tBsample2 s with }
  | tBsample3 => cases h; exact { WritersRespected.refl .tBsample3 s with }
  | tBsample4 => cases h; exact { WritersRespected.refl .tBsample4 s with }
  | _ => cases hk

theorem exec_writers (h : exec i s = .next t) : WritersRespected i s t := by
  cases hk : i.kind with
  | port => exact exec_writers_of_port hk h
  | busOperation => exact exec_writers_of_busOperation hk h
  | trigger => exact exec_writers_of_trigger hk h

end Writers

/-- Settles O53: an element that changed was not left alone, so the instruction is one of its writers. -/
theorem eachElementHasItsWriters : Obligations.EachElementHasItsWriters := by
  intro i s t h
  have w := exec_writers h
  refine ⟨?_, fun hl => by_contra (hl <| w.lines ·), fun hg => ?_, fun hr => by_contra (hr <| w.refreshCounter ·),
    w.regs, ?_⟩
  · rintro (hf | hc)
    · exact by_contra (hf <| w.framebuffer ·)
    · exact by_contra (hc <| w.collision ·)
  · by_contra hne
    rw [not_or] at hne
    exact hg (w.gfxLine hne.1 hne.2)
  · rintro ⟨k, hset, hclear⟩
    by_contra hne
    rw [w.flags (not_exists.mp hne) k hset] at hclear
    cases hclear

end Sys2Proof.Machine

/-! PROOFS of the statements of spec/20_memory.md: the bus reads an instruction makes are the listed ones (R61, R62), at
the addresses of R69 to R78. -/

namespace Sys2Proof.Machine

-- As in the tests: proofs elaborated side by side take more memory than a check of the package has.
set_option Elab.async false

open Sys2Proof.Claims

/-! ### The bus addresses as the rules calculate them (R69 to R78) -/

section Addresses

/-- A concatenation, in the shifts and ors the rules write it with. -/
theorem append_eq_ofNat {m n : Nat} (x : BitVec m) (y : BitVec n) :
    x ++ y = BitVec.ofNat (m + n) (x.toNat <<< n ||| y.toNat) := by
  rw [← BitVec.toNat_append, BitVec.ofNat_toNat, BitVec.setWidth_eq]

/-- A register bit of the model is the one the rules name by address and number. -/
theorem State.reg_bit_eq_flag (s : State) (a : Fin 47) (k : Nat) : (s.reg a).getLsbD k = flag s a k := by
  rw [State.reg_eq_getElem s a a.isLt, BitVec.getLsbD, Nat.testBit_eq_decide_div_mod_eq]
  rfl

/-- A register field is the quotient and remainder the rules take of the register. -/
theorem State.reg_field_toNat (s : State) (a : Fin 47) (lo w : Nat) :
    ((s.reg a).extractLsb' lo w).toNat = s.regs[a].toNat / 2 ^ lo % 2 ^ w := by
  rw [State.reg_eq_getElem s a a.isLt, BitVec.extractLsb'_toNat, Nat.shiftRight_eq_div_pow]
  rfl

theorem State.vm_toNat (s : State) : s.vm.toNat = s.regs[0x18].toNat / 16 := by
  have hfield : s.vm.toNat = s.regs[0x18].toNat / 16 % 16 := s.reg_field_toNat 0x18 4 4
  omega

theorem State.matrixAddress_eq (s : State) : s.matrixAddress = matrixAddr s := by
  rw [State.matrixAddress, append_eq_ofNat, State.vm_toNat]
  rfl

theorem State.pointerAddress_eq (s : State) (i : Fin 8) : s.pointerAddress i = sptrAddr s i := by
  rw [State.pointerAddress, append_eq_ofNat, BitVec.toNat_append, State.vm_toNat, Nat.shiftLeft_or_distrib,
    ← Nat.shiftLeft_add]
  rfl

theorem SpriteUnit.dataAddress_eq (u : SpriteUnit) : u.dataAddress = sdataAddr u := append_eq_ofNat _ _

theorem State.refreshAddress_eq (s : State) : s.refreshAddress = refreshAddr s := append_eq_ofNat _ _

/-- The bitmap address, before the mask of R73 (R72). -/
theorem State.bitmapAddress_eq (s : State) :
    s.cb13 ++ s.display.videoCounter ++ s.display.rowCounter =
      BitVec.ofNat 14
        (bit s.regs[0x18] 3 <<< 13 ||| s.display.videoCounter.toNat <<< 3 ||| s.display.rowCounter.toNat) := by
  have hfield : s.cb13.toNat = bit s.regs[0x18] 3 := s.reg_field_toNat 0x18 3 1
  rw [append_eq_ofNat, BitVec.toNat_append, hfield, Nat.shiftLeft_or_distrib, ← Nat.shiftLeft_add]

/-- The character address, before the mask of R73 (R71). -/
theorem State.characterAddress_eq (s : State) (cd : Byte) :
    s.cb ++ cd ++ s.display.rowCounter =
      BitVec.ofNat 14 ((s.regs[0x18].toNat / 2 % 8) <<< 11 ||| cd.toNat <<< 3 ||| s.display.rowCounter.toNat) := by
  have hfield : s.cb.toNat = s.regs[0x18].toNat / 2 % 8 := s.reg_field_toNat 0x18 1 3
  rw [append_eq_ofNat, BitVec.toNat_append, hfield, Nat.shiftLeft_or_distrib, ← Nat.shiftLeft_add]

/-- The mask of R73 may be applied to the number or to the address. -/
theorem State.ecmMasked_ofNat (s : State) (n : Nat) :
    s.ecmMasked (BitVec.ofNat 14 n) = BitVec.ofNat 14 (if flag s 0x11 6 then n &&& 0x39FF else n) := by
  have hecm : s.ecm = flag s 0x11 6 := s.reg_bit_eq_flag 0x11 6
  rw [State.ecmMasked, hecm]
  split
  · rw [BitVec.ofNat_and]
    rfl
  · rfl

theorem State.gfxAddress_eq (s : State) (k : Fin 40) : s.gfxAddress k = gfxAddr s k := by
  have hecm : s.ecm = flag s 0x11 6 := s.reg_bit_eq_flag 0x11 6
  have hbmm : s.bmm = flag s 0x11 5 := s.reg_bit_eq_flag 0x11 5
  rw [State.gfxAddress, gfxAddr]
  split
  · rw [State.displayAddress, hbmm, State.bitmapAddress_eq, State.characterAddress_eq, ← apply_ite (BitVec.ofNat 14),
      State.ecmMasked_ofNat]
  · rw [State.idleGfxAddress, hecm]

/-- The column of a graphics cycle (R190). -/
theorem gfxColumn_eq_some {cycle : Nat} {k : Fin 40} (h : gfxColumn cycle = some k) :
    k = Fin.ofNat 40 (cycle - 16) := by
  unfold gfxColumn at h
  split at h <;> cases h
  rename_i hcycle
  apply Fin.ext
  rw [Fin.val_ofNat, Nat.mod_eq_of_lt (by omega)]

end Addresses

/-! ### The reads between two states -/

/-- From `s` to `t` the trace gained the reads `l` and no other, oldest first and with the `G` of `s`, and they were
counted. Events that are no reads may stand between them. -/
structure ReadsMade (l : List Event) (s t : State) : Prop where
  trace : ∃ added, t.env.events = added ++ s.env.events ∧
    (added.reverse.filter fun e => isRead e.2) = l.map fun e => (s.cursor.globalCycleCounter, e)
  count : t.env.busReads = s.env.busReads + l.length

section Reads

variable {l : List Event} {s t u : State} {e : Event}

/-- An operation that leaves the trace and the counter alone reads nothing. -/
theorem ReadsMade.none (hevents : t.env.events = s.env.events) (hcount : t.env.busReads = s.env.busReads) :
    ReadsMade [] s t where
  trace := ⟨[], hevents, rfl⟩
  count := hcount

theorem ReadsMade.none_of_env (he : t.env = s.env) : ReadsMade [] s t :=
  .none (congrArg Environment.events he) (congrArg Environment.busReads he)

theorem ReadsMade.refl (s : State) : ReadsMade [] s s := .none_of_env rfl

/-- The reads made show in the environment alone. -/
theorem ReadsMade.congr_env (h : ReadsMade l s t) (he : u.env = t.env) : ReadsMade l s u where
  trace := he ▸ h.trace
  count := he ▸ h.count

/-- One more read of the bus, in the same step. -/
theorem ReadsMade.read (h : ReadsMade l s t) (hG : t.cursor = s.cursor) (he : isRead e = true) :
    ReadsMade (l ++ [e]) s (t.emit e).countRead where
  trace := by
    obtain ⟨added, hadded, hreads⟩ := h.trace
    refine ⟨(s.cursor.globalCycleCounter, e) :: added, ?_, ?_⟩
    · rw [State.countRead_events, State.emit_events, hadded, hG]
      rfl
    · rw [List.reverse_cons, List.filter_append, hreads, List.map_append, List.filter_singleton, he]
      rfl
  count := by
    rw [State.countRead_busReads, State.emit_busReads, h.count, List.length_append]
    rfl

/-- Telling the environment anything else is no read. -/
theorem ReadsMade.emit (h : ReadsMade l s t) (he : isRead e = false) : ReadsMade l s (t.emit e) where
  trace := by
    obtain ⟨added, hadded, hreads⟩ := h.trace
    refine ⟨(t.cursor.globalCycleCounter, e) :: added, ?_, ?_⟩
    · rw [State.emit_events, hadded]
      rfl
    · rw [List.reverse_cons, List.filter_append, hreads, List.filter_singleton, he]
      exact List.append_nil _
  count := h.count

theorem ReadsMade.afterMemRead (h : ReadsMade l s t) (hG : t.cursor = s.cursor) (a : MemAddr) :
    ReadsMade (l ++ [.memRead a (t.memAnswer a)]) s (t.afterMemRead a) := h.read hG rfl

theorem ReadsMade.afterColRead (h : ReadsMade l s t) (hG : t.cursor = s.cursor) (a : ColAddr) :
    ReadsMade (l ++ [.colRead a (t.colAnswer a)]) s (t.afterColRead a) := h.read hG rfl

/-- Reporting the interrupt line after a change of the chip alone is no read. -/
theorem ReadsMade.reportIrq {was : Bool} (he : t.env = s.env) : ReadsMade [] s (State.reportIrq was t) := by
  unfold State.reportIrq
  split
  · exact .none_of_env he
  · exact (ReadsMade.none_of_env he).emit rfl

theorem ReadsMade.raiseIrq (s : State) (m : BitVec 4) : ReadsMade [] s (s.raiseIrq m) := .reportIrq rfl

theorem ReadsMade.acknowledgeIrq (s : State) (m : BitVec 4) : ReadsMade [] s (s.acknowledgeIrq m) := .reportIrq rfl

/-- A single `MemRead`, whatever the operation then does with the answer. -/
theorem ReadsMade.memRead {a : MemAddr} (ht : t.env = (s.afterMemRead a).env) :
    ReadsMade [.memRead a (s.memAnswer a)] s t := ((ReadsMade.refl s).afterMemRead rfl a).congr_env ht

end Reads

/-! ### The reads of an instruction -/

section Exec

variable {i : Instr} {s t : State}

/-- The rules list reads for bus operations alone. -/
theorem listedReads_eq_nil (hk : i.kind ≠ .busOperation) (s : State) : listedReads s i = [] := by
  cases i with
  | idle | refresh | sptr | sdata0 | sdata1 | sdata2 | matrix | gfx => exact absurd rfl hk
  | _ => rfl

theorem exec_reads_of_port (hk : i.kind = .port) (h : exec i s = .next t) : ReadsMade [] s t := by
  obtain ⟨b, he⟩ | ⟨a, -, he⟩ | ⟨a, v, -, -, he⟩ | he | ⟨v, -, he⟩ | ⟨v, -, he⟩ := exec_port i s hk <;>
    rw [he] at h <;> cases h
  · exact .none rfl rfl
  · exact .none rfl rfl
  · exact .none_of_env rfl
  · exact .refl s
  · exact .acknowledgeIrq s _
  · exact .reportIrq rfl

/-- Whether its DMA is on or off, a sprite's data access is one read (R217). -/
theorem spriteData_reads (s : State) (n : Fin 8) (j : Fin 3) :
    ReadsMade [.memRead (sdataRead s n) (s.memAnswer (sdataRead s n))] s (s.spriteData n j) := by
  unfold State.spriteData sdataRead
  dsimp only
  split
  · exact .memRead (SpriteUnit.dataAddress_eq _ ▸ rfl)
  · exact .memRead rfl

/-- The video memory is read first, the colour memory second (R79, R179). -/
theorem fetchColumn_reads (s : State) (k : Fin 40) :
    ReadsMade
      [.memRead (matrixAddr s) (s.memAnswer (matrixAddr s)),
        .colRead s.display.videoCounter ((readMemory s (matrixAddr s)).colAnswer s.display.videoCounter)]
      s (s.fetchColumn k) := by
  rw [← State.matrixAddress_eq]
  exact (((ReadsMade.refl s).afterMemRead rfl s.matrixAddress).afterColRead rfl s.display.videoCounter).congr_env rfl

theorem execMatrix_reads (h : execMatrix s = .next t) : ReadsMade (listedReads s .matrix) s t := by
  unfold execMatrix at h
  split at h <;> cases h
  rw [listedReads]
  split
  · exact fetchColumn_reads s _
  · exact .refl s

theorem execGfx_reads (h : execGfx s = .next t) : ReadsMade (listedReads s .gfx) s t := by
  unfold execGfx at h
  split at h <;> cases h
  rename_i k hk
  rw [listedReads]
  rw [← gfxColumn_eq_some hk, ← State.gfxAddress_eq]
  exact .memRead rfl

theorem exec_reads_of_busOperation (hk : i.kind = .busOperation) (h : exec i s = .next t) :
    ReadsMade (listedReads s i) s t := by
  cases i with
  | idle => cases h; exact .memRead rfl
  | refresh => cases h; exact .memRead (s.refreshAddress_eq ▸ rfl)
  | sptr n => cases h; exact .memRead (s.pointerAddress_eq n ▸ rfl)
  | sdata0 n => cases h; exact spriteData_reads s n 0
  | sdata1 n => cases h; exact spriteData_reads s n 1
  | sdata2 n => cases h; exact spriteData_reads s n 2
  | matrix => exact execMatrix_reads h
  | gfx => exact execGfx_reads h
  | _ => cases hk

/-- A trigger reads nothing; only T_RASTER and T_DRAW touch the environment at all, by raising flags (R236, R345). -/
theorem exec_reads_of_trigger (hk : i.kind = .trigger) (h : exec i s = .next t) : ReadsMade [] s t := by
  cases i with
  | tRaster =>
    cases h
    split
    · exact .raiseIrq s _
    · exact .refl s
  | tDraw =>
    cases h
    rw [State.drawLine_eq]
    exact (ReadsMade.raiseIrq s _).congr_env rfl
  | tBadline | tVborder | tClearline | tVcload | tSpradv | tYexp | tDmachk | tSprdisp | tRcadv | tHleft | tHright
  | tBsample0 | tBsample1 | tBsample2 | tBsample3 | tBsample4 => cases h; exact .none_of_env rfl
  | _ => cases hk

theorem exec_reads (h : exec i s = .next t) : ReadsMade (listedReads s i) s t := by
  cases hk : i.kind with
  | port => rw [listedReads_eq_nil (by simp [hk])]; exact exec_reads_of_port hk h
  | busOperation => exact exec_reads_of_busOperation hk h
  | trigger => rw [listedReads_eq_nil (by simp [hk])]; exact exec_reads_of_trigger hk h

end Exec

/-- Settles O34: the reads of each kind of instruction, and no instruction touches what lies behind the bus. -/
theorem busReadsAreExactlyTheListed : Obligations.BusReadsAreExactlyTheListed := by
  intro i s t h
  have hreads := exec_reads h
  obtain ⟨-, -, -, -, -, hvideo, hcolour⟩ := (State.agentSide_eq_iff s t).mp (exec_agentSide h)
  exact ⟨hreads.trace, hreads.count, hvideo, hcolour⟩

end Sys2Proof.Machine

/-! PROOFS of the statements of spec/30_encoding.md: the decoder and the encoder undo each other (R90, R91, R95, R96),
the reserved words (R100), and the cycles without a column (R95). -/

namespace Sys2Proof

-- As in the tests: proofs elaborated side by side take more memory than a check of the package has.
set_option Elab.async false

/-! ### The operation of a port address (R91)

The lists `portReads` and `portWrites` hold the addresses below `0x30`; the others share one row. -/

section Addresses

variable {a : BitVec 6}

theorem readOperation_of_lt (h : a.toNat < 48) : portReads[a.toNat]? = some (readOperation a) := by
  have hlen : a.toNat < portReads.length := h
  rw [readOperation, List.getElem?_eq_getElem hlen]

theorem readOperation_of_ge (h : 48 ≤ a.toNat) : readOperation a = .rdUnused (a.extractLsb' 0 4) := by
  have hlen : portReads.length ≤ a.toNat := h
  rw [readOperation, List.getElem?_eq_none hlen]

theorem writeOperation_of_lt (h : a.toNat < 48) (v : Byte) :
    (portWrites.map fun w => w v)[a.toNat]? = some (writeOperation a v) := by
  have hlen : a.toNat < portWrites.length := h
  rw [writeOperation, List.getElem?_map, List.getElem?_eq_getElem hlen]
  rfl

theorem writeOperation_of_ge (h : 48 ≤ a.toNat) (v : Byte) :
    writeOperation a v = .wrUnused (a.extractLsb' 0 4) v := by
  have hlen : portWrites.length ≤ a.toNat := h
  rw [writeOperation, List.getElem?_eq_none hlen]

/-- Addresses of the unused row are `11 : low`. -/
theorem toNat_unusedAddress_ge (low : Nibble) : 48 ≤ (0b11#2 ++ low).toNat := by
  revert low
  decide

theorem unusedAddress_extract (h : 48 ≤ a.toNat) : 0b11#2 ++ a.extractLsb' 0 4 = a := by
  revert a
  decide

theorem readOperation_unusedAddress (low : Nibble) : readOperation (0b11#2 ++ low) = .rdUnused low := by
  rw [readOperation_of_ge (toNat_unusedAddress_ge low), BitVec.extractLsb'_append_eq_right]

theorem writeOperation_unusedAddress (low : Nibble) (v : Byte) :
    writeOperation (0b11#2 ++ low) v = .wrUnused low v := by
  rw [writeOperation_of_ge (toNat_unusedAddress_ge low), BitVec.extractLsb'_append_eq_right]

/-! What the two lists hold, entry by entry: the operation at place `k` is the one the encoder gives address `k`. -/

theorem portReads_map_encode :
    portReads.map encode = (List.range 48).map fun k => readBytes (BitVec.ofNat 6 k) := rfl

theorem portWrites_map_encode (v : Byte) :
    (portWrites.map fun w => w v).map encode = (List.range 48).map fun k => writeBytes (BitVec.ofNat 6 k) v := rfl

theorem portReads_map_kind : portReads.map Instr.kind = List.replicate 48 .port := rfl

theorem portWrites_map_kind (v : Byte) :
    (portWrites.map fun w => w v).map Instr.kind = List.replicate 48 .port := rfl

theorem encode_readOperation (a : BitVec 6) : encode (readOperation a) = readBytes a := by
  rcases Nat.lt_or_ge a.toNat 48 with h | h
  · have hentry := congrArg (·[a.toNat]?) portReads_map_encode
    simpa [readOperation_of_lt h, h] using hentry
  · rw [readOperation_of_ge h, encode, unusedAddress_extract h]

theorem encode_writeOperation (a : BitVec 6) (v : Byte) : encode (writeOperation a v) = writeBytes a v := by
  rcases Nat.lt_or_ge a.toNat 48 with h | h
  · have hentry := congrArg (·[a.toNat]?) (portWrites_map_encode v)
    rw [List.getElem?_map, writeOperation_of_lt h] at hentry
    simpa [h] using hentry
  · rw [writeOperation_of_ge h, encode, unusedAddress_extract h]

theorem readOperation_kind (a : BitVec 6) : (readOperation a).kind = .port := by
  rcases Nat.lt_or_ge a.toNat 48 with h | h
  · have hmem := List.mem_map_of_mem (f := Instr.kind) (List.mem_of_getElem? (readOperation_of_lt h))
    rw [portReads_map_kind] at hmem
    exact List.eq_of_mem_replicate hmem
  · rw [readOperation_of_ge h]
    rfl

theorem writeOperation_kind (a : BitVec 6) (v : Byte) : (writeOperation a v).kind = .port := by
  rcases Nat.lt_or_ge a.toNat 48 with h | h
  · have hmem := List.mem_map_of_mem (f := Instr.kind) (List.mem_of_getElem? (writeOperation_of_lt h v))
    rw [portWrites_map_kind] at hmem
    exact List.eq_of_mem_replicate hmem
  · rw [writeOperation_of_ge h]
    rfl

end Addresses

/-! ### Port words (R90) -/

section Port

variable {bytes rest : List Byte} {i : Instr}

theorem portWord_getLsbD_seven (w : BitVec 2) (a : BitVec 6) : (w ++ a : Byte).getLsbD 7 = w.getLsbD 1 :=
  BitVec.getLsbD_append

theorem portWord_getLsbD_six (w : BitVec 2) (a : BitVec 6) : (w ++ a : Byte).getLsbD 6 = w.getLsbD 0 :=
  BitVec.getLsbD_append

theorem portWord_address (w : BitVec 2) (a : BitVec 6) : (w ++ a : Byte).extractLsb' 0 6 = a :=
  BitVec.extractLsb'_append_eq_right

/-- The two bits above the address: bit 7 is set, or they are the direction. -/
theorem portDirection_cases (w : BitVec 2) : w.getLsbD 1 = true ∨ w = 0 ∨ w = 1 := by
  revert w
  decide

theorem decodePort_of_bit7 {w : BitVec 2} (hw : w.getLsbD 1 = true) (a : BitVec 6) (rest : List Byte) :
    decodePort ((w ++ a : Byte) :: rest) = .error (.notAPortWord (w ++ a)) :=
  if_pos ((portWord_getLsbD_seven w a).trans hw)

theorem decodePort_read (a : BitVec 6) (rest : List Byte) :
    decodePort (readBytes a ++ rest) = .ok (readOperation a, rest) := by
  unfold readBytes decodePort
  simp only [List.singleton_append, portWord_getLsbD_seven, portWord_getLsbD_six, portWord_address]
  rfl

theorem decodePort_write (a : BitVec 6) (v : Byte) (rest : List Byte) :
    decodePort (writeBytes a v ++ rest) = .ok (writeOperation a v, rest) := by
  unfold writeBytes decodePort
  simp only [List.cons_append, List.nil_append, portWord_getLsbD_seven, portWord_getLsbD_six, portWord_address]
  rfl

theorem decodePort_write_truncated (a : BitVec 6) : decodePort [(1#2 ++ a : Byte)] = .error .truncated := by
  unfold decodePort
  simp only [portWord_getLsbD_seven, portWord_getLsbD_six]
  rfl

/-- What reads as a port operation is the word `0 : a`, or the word `1 : a` and a data byte. -/
theorem decodePort_eq_ok (h : decodePort bytes = .ok (i, rest)) :
    (∃ a, bytes = readBytes a ++ rest ∧ i = readOperation a) ∨
      ∃ a v, bytes = writeBytes a v ++ rest ∧ i = writeOperation a v := by
  cases bytes with
  | nil => cases h
  | cons b bs =>
    obtain ⟨w, a, rfl⟩ : ∃ (w : BitVec 2) (a : BitVec 6), b = w ++ a :=
      ⟨b.extractLsb' 6 2, b.extractLsb' 0 6, (BitVec.extractLsb'_append_extractLsb' (w := 2) (len := 6)).symm⟩
    rcases portDirection_cases w with hw | rfl | rfl
    · rw [decodePort_of_bit7 hw] at h
      cases h
    · cases (decodePort_read a bs).symm.trans h
      exact .inl ⟨a, rfl, rfl⟩
    · cases bs with
      | nil => cases (decodePort_write_truncated a).symm.trans h
      | cons v bs =>
        cases (decodePort_write a v bs).symm.trans h
        exact .inr ⟨a, v, rfl, rfl⟩

end Port

/-! ### Micro-operation words (R95, R96, R100) -/

section MicroOp

variable {cls : BitVec 3} {operand : BitVec 5} {b : Byte} {i j : Instr}

/-- A byte is its class and its operand. -/
theorem microOpBytes_fields (b : Byte) : microOpBytes (b.extractLsb' 5 3) (b.extractLsb' 0 5) = [b] :=
  congrArg (fun w : Byte => [w]) BitVec.extractLsb'_append_extractLsb'

theorem decodeMicroOp_eq_ok_iff :
    decodeMicroOp b = .ok i ↔ microOpOf (b.extractLsb' 5 3) (b.extractLsb' 0 5) = some i := by
  unfold decodeMicroOp
  split <;> simp [*]

theorem decodeMicroOp_eq_reserved_iff :
    decodeMicroOp b = .error (.reservedMicroOp b) ↔ microOpOf (b.extractLsb' 5 3) (b.extractLsb' 0 5) = none := by
  unfold decodeMicroOp
  split <;> simp [*]

/-! The operands of each class: those R100 reserves, and what the others are the encoding of. -/

theorem withoutOperand_eq_none_iff : withoutOperand operand j = none ↔ operand.toNat ≠ 0 := by
  simp [withoutOperand, BitVec.toNat_eq]

theorem microOpOf_two_eq_none_iff : microOpOf 2 operand = none ↔ 8 ≤ operand.toNat := by
  revert operand
  decide

theorem spriteDataOf_eq_none_iff : spriteDataOf operand = none ↔ operand.toNat % 4 = 3 := by
  revert operand
  decide

theorem triggerOf_eq_none_iff : triggerOf operand = none ↔ operand.toNat = 11 ∨ 21 ≤ operand.toNat := by
  revert operand
  decide

theorem format_encode_of_withoutOperand (h : withoutOperand operand j = some i)
    (hj : j.format = .microOp ∧ encode j = microOpBytes cls 0) :
    i.format = .microOp ∧ encode i = microOpBytes cls operand := by
  unfold withoutOperand at h
  split at h
  next hzero =>
    cases h
    rwa [hzero]
  next => cases h

theorem format_encode_of_microOpOf_two :
    ∀ i ∈ microOpOf 2 operand, i.format = .microOp ∧ encode i = microOpBytes 2 operand := by
  revert operand
  decide

theorem format_encode_of_spriteDataOf :
    ∀ i ∈ spriteDataOf operand, i.format = .microOp ∧ encode i = microOpBytes 3 operand := by
  revert operand
  decide

theorem format_encode_of_triggerOf :
    ∀ i ∈ triggerOf operand, i.format = .microOp ∧ encode i = microOpBytes 6 operand := by
  revert operand
  decide

theorem microOpClass_cases (cls : BitVec 3) :
    cls = 0 ∨ cls = 1 ∨ cls = 2 ∨ cls = 3 ∨ cls = 4 ∨ cls = 5 ∨ cls = 6 ∨ cls = 7 := by
  revert cls
  decide

/-- The micro-operation of a class and an operand is encoded as that class and operand (R95). -/
theorem format_encode_of_microOpOf (h : microOpOf cls operand = some i) :
    i.format = .microOp ∧ encode i = microOpBytes cls operand := by
  rcases microOpClass_cases cls with rfl | rfl | rfl | rfl | rfl | rfl | rfl | rfl
  · exact format_encode_of_withoutOperand h ⟨rfl, rfl⟩
  · exact format_encode_of_withoutOperand h ⟨rfl, rfl⟩
  · exact format_encode_of_microOpOf_two i h
  · exact format_encode_of_spriteDataOf i h
  · exact format_encode_of_withoutOperand h ⟨rfl, rfl⟩
  · exact format_encode_of_withoutOperand h ⟨rfl, rfl⟩
  · exact format_encode_of_triggerOf i h
  · cases h

/-- A word that decodes is the encoding of what it decodes to. -/
theorem format_encode_of_decodeMicroOp (h : decodeMicroOp b = .ok i) : i.format = .microOp ∧ encode i = [b] := by
  obtain ⟨hformat, hencode⟩ := format_encode_of_microOpOf (decodeMicroOp_eq_ok_iff.mp h)
  exact ⟨hformat, hencode.trans (microOpBytes_fields b)⟩

/-- The words R100 reserves, by class and operand. -/
theorem microOpOf_eq_none_iff : microOpOf cls operand = none ↔
    cls.toNat = 7 ∨
    (cls.toNat = 6 ∧ (operand.toNat = 11 ∨ 21 ≤ operand.toNat)) ∨
    (cls.toNat = 3 ∧ operand.toNat % 4 = 3) ∨
    (cls.toNat = 2 ∧ 8 ≤ operand.toNat) ∨
    (cls.toNat ∈ [0, 1, 4, 5] ∧ operand.toNat ≠ 0) := by
  rcases microOpClass_cases cls with rfl | rfl | rfl | rfl | rfl | rfl | rfl | rfl
  · exact withoutOperand_eq_none_iff.trans (by simp)
  · exact withoutOperand_eq_none_iff.trans (by simp)
  · exact microOpOf_two_eq_none_iff.trans (by simp)
  · exact spriteDataOf_eq_none_iff.trans (by simp)
  · exact withoutOperand_eq_none_iff.trans (by simp)
  · exact withoutOperand_eq_none_iff.trans (by simp)
  · exact triggerOf_eq_none_iff.trans (by simp)
  · exact iff_of_true rfl (.inl rfl)

theorem decode_microOp_eq_ok_iff {bytes rest : List Byte} :
    decode .microOp bytes = .ok (i, rest) ↔ ∃ b, bytes = b :: rest ∧ decodeMicroOp b = .ok i := by
  cases bytes with
  | nil => simp [decode]
  | cons b bs =>
    unfold decode
    cases hb : decodeMicroOp b <;> simp [hb, and_comm]

end MicroOp

/-! ### Decoding and encoding undo each other -/

/-- The encoding alone decodes to its instruction, with no byte left. -/
theorem decode_encode (i : Instr) : decode i.format (encode i) = .ok (i, []) := by
  cases i with
  | rdUnused low =>
    exact (decodePort_read (0b11#2 ++ low) []).trans (by rw [readOperation_unusedAddress])
  | wrUnused low v =>
    exact (decodePort_write (0b11#2 ++ low) v []).trans (by rw [writeOperation_unusedAddress])
  | sptr n | sdata0 n | sdata1 n | sdata2 n =>
    revert n
    decide
  | tHleft cs | tHright cs => cases cs <;> rfl
  | _ => rfl

/-- Decoding reads the front of the bytes: what stands behind is left. -/
theorem decode_append {f : Format} {bytes rest : List Byte} {i : Instr} (h : decode f bytes = .ok (i, rest))
    (more : List Byte) : decode f (bytes ++ more) = .ok (i, rest ++ more) := by
  cases f with
  | port =>
    rcases decodePort_eq_ok h with ⟨a, rfl, rfl⟩ | ⟨a, v, rfl, rfl⟩
    · rw [List.append_assoc]
      exact decodePort_read a (rest ++ more)
    · rw [List.append_assoc]
      exact decodePort_write a v (rest ++ more)
  | microOp =>
    obtain ⟨b, rfl, hb⟩ := decode_microOp_eq_ok_iff.mp h
    exact decode_microOp_eq_ok_iff.mpr ⟨b, rfl, hb⟩

theorem Instr.format_of_kind_port {i : Instr} (h : i.kind = .port) : i.format = .port := by
  rw [Instr.format, h]

/-- Settles O1: the encoding decodes to its instruction, and what stands behind it is left. -/
theorem decodeEncodeAgree : Obligations.DecodeEncodeAgree := fun i rest => decode_append (decode_encode i) rest

/-- Settles O2, by what each format can read: a port word with its address, or a micro-operation word with its class
and operand, and the encoder writes these fields back. -/
theorem everyDecodedWordIsItsEncoding : Obligations.EveryDecodedWordIsItsEncoding := by
  intro f bytes rest i h
  cases f with
  | port =>
    rcases decodePort_eq_ok h with ⟨a, rfl, rfl⟩ | ⟨a, v, rfl, rfl⟩
    · exact ⟨Instr.format_of_kind_port (readOperation_kind a), by rw [encode_readOperation]⟩
    · exact ⟨Instr.format_of_kind_port (writeOperation_kind a v), by rw [encode_writeOperation]⟩
  | microOp =>
    obtain ⟨b, rfl, hb⟩ := decode_microOp_eq_ok_iff.mp h
    obtain ⟨hformat, hencode⟩ := format_encode_of_decodeMicroOp hb
    exact ⟨hformat, by rw [hencode, List.singleton_append]⟩

/-- Settles O3: every value of the six address bits has its read and its write. -/
theorem everyPortWordIsLegal : Obligations.EveryPortWordIsLegal := fun a v rest =>
  ⟨decodePort_read a rest, decodePort_write a v rest, readOperation_kind a, writeOperation_kind a v⟩

/-- Settles O5: each word is what the encoder writes for its instruction. -/
theorem sampleWordsDecode : Obligations.SampleWordsDecode :=
  ⟨decode_encode .rd11, decode_encode (.wr1A 0x0F), decode_encode (.rdUnused 5), decode_encode .idle,
    decode_encode (.sptr 3), decode_encode (.sdata2 3), decode_encode .gfx, decode_encode (.tHleft false),
    decode_encode .tBsample4⟩

end Sys2Proof

namespace Sys2Proof.Machine

-- As in the tests: proofs elaborated side by side take more memory than a check of the package has.
set_option Elab.async false

/-! ### Reserved words (R100) and the cycle tables (R124, R125) -/

section CycleTable

/-- Every word of a descriptor is a micro-operation. -/
def CycleWords.Decodes (d : CycleWords) : Prop :=
  ∀ w ∈ d.pre ++ d.ops ++ d.post, (microOpOf (w.extractLsb' 5 3) (w.extractLsb' 0 5)).isSome = true

theorem CycleWords.Decodes.exists_instr {d : CycleWords} (h : d.Decodes) {w : Byte}
    (hw : w ∈ d.pre ++ d.ops ++ d.post) : ∃ i, decodeMicroOp w = .ok i := by
  obtain ⟨i, hi⟩ := Option.isSome_iff_exists.mp (h w hw)
  exact ⟨i, decodeMicroOp_eq_ok_iff.mpr hi⟩

theorem cycles1To18_decode : ∀ d ∈ cycles1To18, d.Decodes := by
  unfold CycleWords.Decodes
  decide

theorem cycles19To54_decode : ∀ d ∈ cycles19To54, d.Decodes := by
  intro d hd
  rw [List.eq_of_mem_replicate hd]
  unfold CycleWords.Decodes
  decide

theorem cycles55To57_decode : ∀ d ∈ cycles55To57, d.Decodes := by
  unfold CycleWords.Decodes
  decide

theorem cycles58To63_decode : ∀ d ∈ cycles58To63, d.Decodes := by
  unfold CycleWords.Decodes
  decide

theorem cycles58To65_decode : ∀ d ∈ cycles58To65, d.Decodes := by
  unfold CycleWords.Decodes
  decide

theorem cycleTable_decode (v : Variant) : ∀ d ∈ cycleTable v, d.Decodes := by
  cases v with
  | v63 =>
    simp only [cycleTable, List.forall_mem_append]
    exact ⟨⟨⟨cycles1To18_decode, cycles19To54_decode⟩, cycles55To57_decode⟩, cycles58To63_decode⟩
  | v65 =>
    simp only [cycleTable, List.forall_mem_append]
    exact ⟨⟨⟨cycles1To18_decode, cycles19To54_decode⟩, cycles55To57_decode⟩, cycles58To65_decode⟩

end CycleTable

/-- Settles O4: the decoder refuses what no class gives a meaning, and each part of the tables is read through. -/
theorem reservedMicroOpWordsRefused : Obligations.ReservedMicroOpWordsRefused := by
  constructor
  · intro w
    have hw := w.isLt
    have hcls : (w.extractLsb' 5 3).toNat = w.toNat / 32 := by
      rw [BitVec.extractLsb'_toNat, Nat.shiftRight_eq_div_pow]
      omega
    have hoperand : (w.extractLsb' 0 5).toNat = w.toNat % 32 := by
      rw [BitVec.extractLsb'_toNat, Nat.shiftRight_zero]
    have hquarter : w.toNat % 32 % 4 = w.toNat % 4 := by omega
    have htop : w.toNat / 32 = 7 ↔ 0xE0 ≤ w.toNat := by omega
    rw [decodeMicroOp_eq_reserved_iff, microOpOf_eq_none_iff, hcls, hoperand, hquarter, htop]
  · intro v d hd w hw
    exact (cycleTable_decode v d hd).exists_instr hw

/-! ### Cycles without a column -/

theorem gfxColumn_eq_none {cycle : Nat} (h : cycle < 16 ∨ 55 < cycle) : gfxColumn cycle = none :=
  dif_neg (by omega)

theorem matrixColumn_eq_none {cycle : Nat} (h : cycle < 15 ∨ 54 < cycle) : matrixColumn cycle = none :=
  dif_neg (by omega)

/-- Settles O33: both operations begin with the lookup of their column, and it finds none. -/
theorem offColumnRefused : Obligations.OffColumnRefused := by
  intro s
  constructor
  · intro hcycle
    rw [exec_gfx, execGfx, gfxColumn_eq_none hcycle]
  · intro hcycle
    rw [exec_matrix, execMatrix, matrixColumn_eq_none hcycle]

end Sys2Proof.Machine

/-! PROOFS of the statements of spec/40_cycle_machine.md: the cursor advance, what no instruction touches, the small
steps of a `STEP`, the cycle tables, cycle coverage, and IDLE and REFRESH (R120 to R131, R150). -/

namespace Sys2Proof.Machine

-- As in the tests: proofs elaborated side by side take more memory than a check of the package has.
set_option Elab.async false

open Sys2Proof.Claims

/-! ### The cursor advance (R123, R127) -/

section Advance

variable {s : State}

theorem State.advanceCursor_of_midLine (hc : s.cursor.cycleInLine ≠ s.params.cyclesPerLine) :
    s.advanceCursor = { s with cursor :=
      ⟨s.cursor.scanline, s.cursor.cycleInLine + 1, s.cursor.globalCycleCounter + 1⟩ } := if_neg hc

theorem State.advanceCursor_of_lastCycle (hc : s.cursor.cycleInLine = s.params.cyclesPerLine) :
    s.advanceCursor =
      State.advanceLine { s with cursor := ⟨s.cursor.scanline, 1, s.cursor.globalCycleCounter + 1⟩ } := if_pos hc

theorem State.advanceCursor_of_lineEnd (hc : s.cursor.cycleInLine = s.params.cyclesPerLine)
    (hl : s.cursor.scanline.toNat + 1 ≠ s.params.totalLines) :
    s.advanceCursor = { s with cursor := ⟨s.cursor.scanline + 1, 1, s.cursor.globalCycleCounter + 1⟩ } :=
  (State.advanceCursor_of_lastCycle hc).trans (if_neg hl)

theorem State.advanceCursor_of_frameEnd (hc : s.cursor.cycleInLine = s.params.cyclesPerLine)
    (hl : s.cursor.scanline.toNat + 1 = s.params.totalLines) :
    s.advanceCursor = State.frameWrap { s with cursor := ⟨0, 1, s.cursor.globalCycleCounter + 1⟩ } :=
  (State.advanceCursor_of_lastCycle hc).trans (if_pos hl)

/-- Settles O12: the step is the cursor advance on the state without that item, in the three cases of R123. -/
theorem advanceCursorByTheListing : Obligations.AdvanceCursorByTheListing := by
  intro s rest ha c g
  have hstep : step s = .next (s.withAgenda rest).advanceCursor := step_of_agenda ha
  refine ⟨fun hc => ?_, fun hc hl => ?_, fun hc hpos hl => ?_⟩
  · exact hstep.trans (congrArg _ (State.advanceCursor_of_midLine hc))
  · have hnext : s.cursor.scanline.toNat + 1 ≠ s.params.totalLines := fun h => hl (Nat.eq_sub_of_add_eq h)
    exact hstep.trans (congrArg _ (State.advanceCursor_of_lineEnd hc hnext))
  · have hlast : s.cursor.scanline.toNat + 1 = s.params.totalLines := by rw [hl, Nat.sub_add_cancel hpos]
    exact hstep.trans (congrArg _ (State.advanceCursor_of_frameEnd hc hlast))

end Advance

/-! ### What no instruction touches (R12, R31, R32, R374)

The step in progress and the operations that wait belong to the other agents' side, `State.agentSide`; here are the
chip's own elements that only the untabled items of `STEP` and `RESET` write. -/

/-- The chip's elements that no instruction writes. -/
structure StepSide where
  cursor : Cursor
  params : Params
  arbiter : Arbiter
  pen : LightPen

def State.stepSide (s : State) : StepSide := ⟨s.cursor, s.params, s.arbiter, s.pen⟩

theorem State.stepSide_eq_iff (s t : State) :
    t.stepSide = s.stepSide ↔
      t.cursor = s.cursor ∧ t.params = s.params ∧ t.arbiter = s.arbiter ∧ t.pen = s.pen := by
  unfold State.stepSide
  rw [StepSide.mk.injEq]

section StepSide

variable {i : Instr} {s t : State}

@[simp] theorem State.reportIrq_stepSide (was : Bool) (s : State) : (State.reportIrq was s).stepSide = s.stepSide := by
  simp [State.stepSide_eq_iff]

@[simp] theorem State.raiseIrq_stepSide (s : State) (m : BitVec 4) : (s.raiseIrq m).stepSide = s.stepSide := by
  simp [State.stepSide_eq_iff]

@[simp] theorem State.acknowledgeIrq_stepSide (s : State) (m : BitVec 4) :
    (s.acknowledgeIrq m).stepSide = s.stepSide := by
  simp [State.stepSide_eq_iff]

@[simp] theorem State.spriteData_stepSide (s : State) (i : Fin 8) (j : Fin 3) :
    (s.spriteData i j).stepSide = s.stepSide := by
  simp [State.stepSide_eq_iff]

@[simp] theorem State.drawLine_stepSide (s : State) : s.drawLine.stepSide = s.stepSide := by
  simp [State.stepSide_eq_iff]

@[simp] theorem State.fetchColumn_stepSide (s : State) (k : Fin 40) : (s.fetchColumn k).stepSide = s.stepSide := by
  simp [State.stepSide_eq_iff]

@[simp] theorem State.fetchGraphics_stepSide (s : State) (k : Fin 40) :
    (s.fetchGraphics k).stepSide = s.stepSide := by
  simp [State.stepSide_eq_iff]

theorem execMatrix_stepSide (h : execMatrix s = .next t) : t.stepSide = s.stepSide := by
  unfold execMatrix at h
  split at h <;> cases h
  split
  · exact s.fetchColumn_stepSide _
  · rfl

theorem execGfx_stepSide (h : execGfx s = .next t) : t.stepSide = s.stepSide := by
  unfold execGfx at h
  split at h <;> cases h
  exact s.fetchGraphics_stepSide _

theorem execTRaster_stepSide (h : execTRaster s = .next t) : t.stepSide = s.stepSide := by
  cases h
  split
  · exact s.raiseIrq_stepSide flagRaster
  · rfl

theorem exec_stepSide_of_port (hk : i.kind = .port) (h : exec i s = .next t) : t.stepSide = s.stepSide := by
  obtain ⟨b, he⟩ | ⟨a, -, he⟩ | ⟨a, v, -, -, he⟩ | he | ⟨v, -, he⟩ | ⟨v, -, he⟩ := exec_port i s hk <;>
    rw [he] at h <;> cases h
  · rfl
  · rfl
  · rfl
  · rfl
  · exact s.acknowledgeIrq_stepSide _
  · exact (s.setReg 0x1A v).reportIrq_stepSide _

/-- A micro-operation writes the elements of its own rule, none of which is on the step's side. -/
theorem exec_stepSide_of_microOp (hk : i.kind ≠ .port) (h : exec i s = .next t) : t.stepSide = s.stepSide := by
  cases i with
  | matrix => exact execMatrix_stepSide h
  | gfx => exact execGfx_stepSide h
  | sdata0 n => cases h; exact s.spriteData_stepSide n 0
  | sdata1 n => cases h; exact s.spriteData_stepSide n 1
  | sdata2 n => cases h; exact s.spriteData_stepSide n 2
  | tRaster => exact execTRaster_stepSide h
  | tDraw => cases h; exact s.drawLine_stepSide
  | idle | refresh | sptr _ | tBadline | tVborder | tClearline | tVcload | tSpradv | tYexp | tDmachk | tSprdisp
  | tRcadv | tHleft _ | tHright _ | tBsample0 | tBsample1 | tBsample2 | tBsample3 | tBsample4 => cases h; rfl
  | _ => exact absurd rfl hk

theorem exec_stepSide (h : exec i s = .next t) : t.stepSide = s.stepSide := by
  by_cases hk : i.kind = .port
  · exact exec_stepSide_of_port hk h
  · exact exec_stepSide_of_microOp hk h

end StepSide

/-- Settles O52: the step's side and the other agents' side are both left alone. -/
theorem noInstructionMovesTheCursor : Obligations.NoInstructionMovesTheCursor := by
  intro i s t h
  obtain ⟨hcursor, hparams, harbiter, hpen⟩ := (State.stepSide_eq_iff s t).mp (exec_stepSide h)
  obtain ⟨hagenda, hrequests, -⟩ := (State.agentSide_eq_iff s t).mp (exec_agentSide h)
  exact ⟨hcursor, hparams, harbiter, hpen, hagenda, hrequests⟩

end Sys2Proof.Machine

/-! PROOFS of the statements of spec/40_cycle_machine.md, continued: the small steps of a `STEP` are its listing
(R121). -/

namespace Sys2Proof.Machine

-- As in the tests: proofs elaborated side by side take more memory than a check of the package has.
set_option Elab.async false

open Sys2Proof.Claims

/-! ### No item looks at the items after it

The machine runs an item on a state that still holds the rest of the step in progress, the listing of R121 on one that
holds nothing of it. The two agree because every item treats the agenda as a value it neither reads nor writes. -/

/-- The answer with another step in progress. -/
def Result.withAgenda (r : Result) (a : List Work) : Result := r.andThen fun t => .next (t.withAgenda a)

/-! #### The two operations with a column (R95) -/

section Columns

variable {s : State} {k : Fin 40}

theorem execMatrix_of_none (hk : matrixColumn s.cursor.cycleInLine = none) :
    execMatrix s = .refused (.noColumn s.cursor.cycleInLine) := by
  unfold execMatrix
  rw [hk]

theorem execMatrix_of_some (hk : matrixColumn s.cursor.cycleInLine = some k) :
    execMatrix s = .next (if s.display.isBadLine then s.fetchColumn k else s) := by
  unfold execMatrix
  rw [hk]

theorem execGfx_of_none (hk : gfxColumn s.cursor.cycleInLine = none) :
    execGfx s = .refused (.noColumn s.cursor.cycleInLine) := by
  unfold execGfx
  rw [hk]

theorem execGfx_of_some (hk : gfxColumn s.cursor.cycleInLine = some k) : execGfx s = .next (s.fetchGraphics k) := by
  unfold execGfx
  rw [hk]

end Columns

/-! #### Each operation with another step in progress -/

section Agenda

variable (s : State) (a : List Work)

/-- `State.withAgenda` past a choice that does not look at the agenda. -/
theorem State.withAgenda_ite (c : Prop) [Decidable c] (t u : State) :
    (if c then t else u).withAgenda a = if c then t.withAgenda a else u.withAgenda a :=
  apply_ite (State.withAgenda · a) c t u

theorem State.reportIrq_withAgenda (was : Bool) :
    State.reportIrq was (s.withAgenda a) = (State.reportIrq was s).withAgenda a := by
  unfold State.reportIrq
  rw [State.withAgenda_ite]
  rfl

theorem State.raiseIrq_withAgenda (m : BitVec 4) : (s.withAgenda a).raiseIrq m = (s.raiseIrq m).withAgenda a :=
  State.reportIrq_withAgenda { s with irqFlags := s.irqFlags ||| m } a s.irqLine

theorem State.acknowledgeIrq_withAgenda (m : BitVec 4) :
    (s.withAgenda a).acknowledgeIrq m = (s.acknowledgeIrq m).withAgenda a :=
  State.reportIrq_withAgenda { s with irqFlags := s.irqFlags &&& ~~~m } a s.irqLine

theorem State.spriteData_withAgenda (i : Fin 8) (j : Fin 3) :
    (s.withAgenda a).spriteData i j = (s.spriteData i j).withAgenda a := by
  unfold State.spriteData
  dsimp only
  rw [State.withAgenda_ite]
  rfl

theorem State.drawLine_withAgenda : (s.withAgenda a).drawLine = s.drawLine.withAgenda a := by
  rw [State.drawLine_eq, State.drawLine_eq]
  dsimp only
  rw [State.raiseIrq_withAgenda]
  rfl

theorem State.seizeBus_withAgenda : (s.withAgenda a).seizeBus = s.seizeBus.withAgenda a := by
  unfold State.seizeBus
  by_cases hc : s.arbiter.cpuSuspended = true
  · rw [if_pos hc, if_pos (show (s.withAgenda a).arbiter.cpuSuspended = true from hc)]
    rfl
  · rw [if_neg hc, if_neg (show ¬(s.withAgenda a).arbiter.cpuSuspended = true from hc)]
    rfl

theorem State.arbitrate_withAgenda : (s.withAgenda a).arbitrate = s.arbitrate.withAgenda a := by
  unfold State.arbitrate State.releaseBus
  rw [State.seizeBus_withAgenda]
  simp only [State.withAgenda_ite]
  rfl

theorem State.advanceCursor_withAgenda : (s.withAgenda a).advanceCursor = s.advanceCursor.withAgenda a := by
  unfold State.advanceCursor State.advanceLine
  simp only [State.withAgenda_ite]
  rfl

theorem execMatrix_withAgenda : execMatrix (s.withAgenda a) = Result.withAgenda (execMatrix s) a := by
  cases hk : matrixColumn s.cursor.cycleInLine with
  | none => rw [execMatrix_of_none hk, execMatrix_of_none (s := s.withAgenda a) hk]; rfl
  | some k =>
    rw [execMatrix_of_some hk, execMatrix_of_some (s := s.withAgenda a) hk]
    exact congrArg _ (State.withAgenda_ite a (s.display.isBadLine = true) (s.fetchColumn k) s).symm

theorem execGfx_withAgenda : execGfx (s.withAgenda a) = Result.withAgenda (execGfx s) a := by
  cases hk : gfxColumn s.cursor.cycleInLine with
  | none => rw [execGfx_of_none hk, execGfx_of_none (s := s.withAgenda a) hk]; rfl
  | some k => rw [execGfx_of_some hk, execGfx_of_some (s := s.withAgenda a) hk]; rfl

theorem execTRaster_withAgenda : execTRaster (s.withAgenda a) = Result.withAgenda (execTRaster s) a := by
  unfold execTRaster
  rw [State.raiseIrq_withAgenda]
  exact congrArg _ (State.withAgenda_ite a _ _ s).symm

/-- No instruction looks at the items after it. -/
theorem exec_withAgenda (i : Instr) : exec i (s.withAgenda a) = Result.withAgenda (exec i s) a := by
  cases i with
  | wr19 v => exact congrArg _ (s.acknowledgeIrq_withAgenda a _)
  | wr1A v => exact congrArg _ ((s.setReg 0x1A v).reportIrq_withAgenda a _)
  | sdata0 n => exact congrArg _ (s.spriteData_withAgenda a n 0)
  | sdata1 n => exact congrArg _ (s.spriteData_withAgenda a n 1)
  | sdata2 n => exact congrArg _ (s.spriteData_withAgenda a n 2)
  | matrix => exact execMatrix_withAgenda s a
  | gfx => exact execGfx_withAgenda s a
  | tRaster => exact execTRaster_withAgenda s a
  | tDraw => exact congrArg _ (s.drawLine_withAgenda a)
  | _ => rfl

theorem performWord_withAgenda (w : Byte) : performWord w (s.withAgenda a) = (performWord w s).withAgenda a := by
  unfold performWord
  cases decodeMicroOp w with
  | ok i => exact exec_withAgenda s a i
  | error e => rfl

theorem performWork_withAgenda (w : Work) : performWork w (s.withAgenda a) = (performWork w s).withAgenda a := by
  cases w with
  | word w => exact performWord_withAgenda s a w
  | arbitrate => exact congrArg _ (s.arbitrate_withAgenda a)
  | advance => exact congrArg _ (s.advanceCursor_withAgenda a)

end Agenda
/-! ### The small steps of a step in progress -/

section Run

variable {M : Host.Core} {s t : M.State}

theorem core_run_succ_of_next (h : M.step s = .next t) (k : Nat) : M.run (k + 1) s = M.run k t := by
  rw [Host.Core.run, h]

theorem core_run_succ_of_fault {e : M.Fault} (h : M.step s = .fault e) (k : Nat) : M.run (k + 1) s = .fault e := by
  rw [Host.Core.run, h]

theorem core_run_succ_of_refused {e : M.Refusal} (h : M.step s = .refused e) (k : Nat) :
    M.run (k + 1) s = .refused e := by
  rw [Host.Core.run, h]

end Run

/-- As many steps as a step in progress has items run these items and leave none. -/
theorem run_withAgenda (ws : List Work) (s : State) :
    Host.Core.run Sys2Proof.core ws.length (s.withAgenda ws) = (runWork ws s).withAgenda [] := by
  induction ws generalizing s with
  | nil => rfl
  | cons w ws ih =>
    have hstep : Sys2Proof.core.step (s.withAgenda (w :: ws)) = (performWork w s).withAgenda ws :=
      (step_of_agenda (s := s.withAgenda (w :: ws)) rfl).trans (performWork_withAgenda s ws w)
    rw [runWork]
    cases hw : performWork w s with
    | next t => rw [hw] at hstep; exact (core_run_succ_of_next hstep _).trans (ih t)
    | fault e => rw [hw] at hstep; exact core_run_succ_of_fault hstep _
    | refused e => rw [hw] at hstep; exact core_run_succ_of_refused hstep _

theorem runWork_agentSide {ws : List Work} {s t : State} (h : runWork ws s = .next t) :
    t.agentSide = s.agentSide := by
  induction ws generalizing s with
  | nil => cases h; rfl
  | cons w ws ih =>
    obtain ⟨u, hu, ht⟩ := (Result.andThen_eq_next _ _ _).mp h
    exact (ih ht).trans (performWork_agentSide hu)

/-- Between two steps there is nothing to leave. -/
theorem runWork_withAgenda_nil (ws : List Work) {s : State} (ha : s.agenda = []) :
    (runWork ws s).withAgenda [] = runWork ws s := by
  cases h : runWork ws s with
  | next t =>
    obtain ⟨hagenda, -⟩ := (State.agentSide_eq_iff s t).mp (runWork_agentSide h)
    rw [ha] at hagenda
    exact congrArg Host.Outcome.next (show t.withAgenda [] = t by rw [← hagenda]; rfl)
  | fault e => rfl
  | refused e => rfl

theorem runWork_words (ws : List Byte) (s : State) : runWork (ws.map .word) s = performAll ws s := by
  induction ws generalizing s with
  | nil => rfl
  | cons w ws ih => exact congrArg _ (funext ih)

/-- The items of a descriptor, as the listing of R121 performs them. -/
theorem runWork_items (d : CycleWords) (s : State) :
    runWork d.items s =
      (performAll d.pre s).andThen fun s3 =>
      (performAll d.ops s3.arbitrate).andThen fun s5 =>
      (performAll d.post s5).andThen fun s6 => .next s6.advanceCursor := by
  simp only [CycleWords.items, runWork_append, Result.andThen_assoc, runWork_words]
  rfl

theorem CycleWords.items_length (d : CycleWords) :
    d.items.length = d.pre.length + d.ops.length + d.post.length + 2 := by
  simp only [CycleWords.items, List.length_append, List.length_map, List.length_singleton]
  omega

/-- The first step of a cycle: the sample, and the items taken up (R121). -/
theorem step_of_atStep {s : State} {d : CycleWords} (hs : AtStep s)
    (hd : cycleWords s.params.variant s.cursor.cycleInLine = some d) :
    step s = .next (s.lightPenSample.withAgenda d.items) := by
  obtain ⟨hagenda, hrequests⟩ := hs
  unfold step stepOnce State.beginCycle
  rw [hagenda, hrequests, hd]
  rfl

/-- Settles O7: the first step takes up the items, the others run them as if no agenda were there. -/
theorem stepsOfACycleAreItsListing : Obligations.StepsOfACycleAreItsListing := by
  intro s d hs hd
  have hagenda : s.lightPenSample.agenda = [] := s.lightPenSample_agenda.trans hs.1
  have hfirst : Sys2Proof.core.step s = .next (s.lightPenSample.withAgenda d.items) := step_of_atStep hs hd
  have hrun : Host.Core.run Sys2Proof.core (d.items.length + 1) s = (runWork d.items s.lightPenSample).withAgenda [] :=
    (core_run_succ_of_next hfirst _).trans (run_withAgenda d.items s.lightPenSample)
  rw [runWork_withAgenda_nil d.items hagenda, runWork_items, d.items_length] at hrun
  exact hrun

end Sys2Proof.Machine

/-! PROOFS of the statements of spec/40_cycle_machine.md, continued: the cycle tables, IDLE and REFRESH, and cycle
coverage (R124 to R126, R130, R131, R150). -/

namespace Sys2Proof.Machine

-- As in the tests: proofs elaborated side by side take more memory than a check of the package has.
set_option Elab.async false

open Sys2Proof.Claims

/-! ### The cycle tables (R124 to R126) -/

section CycleTable

variable {v : Variant} {c : Nat} {d : CycleWords}

theorem cycleTable_length (v : Variant) : (cycleTable v).length = v.cyclesPerLine := by
  cases v <;> rfl

/-- The descriptor of a cycle is its row of the table. -/
theorem cycleWords_eq_some_iff :
    cycleWords v c = some d ↔ ∃ k, c = k + 1 ∧ ∃ h : k < (cycleTable v).length, (cycleTable v)[k] = d := by
  cases c with
  | zero => simp [cycleWords]
  | succ k => simp [cycleWords, List.getElem?_eq_some_iff]

theorem cycleWords_eq_none (h : c = 0 ∨ v.cyclesPerLine < c) : cycleWords v c = none := by
  cases c with
  | zero => rfl
  | succ k => exact List.getElem?_eq_none (by rw [cycleTable_length]; omega)

theorem exists_cycleWords (hlow : 1 ≤ c) (hhigh : c ≤ v.cyclesPerLine) : ∃ d, cycleWords v c = some d :=
  ⟨_, cycleWords_eq_some_iff.mpr ⟨c - 1, by omega, by rw [cycleTable_length]; omega, rfl⟩⟩

/-- A row of words is the entry of R126 for its cycle and well formed there; no word of it is lost in the decoding. -/
structure CycleWords.Fits (v : Variant) (c : Nat) (d : CycleWords) : Prop where
  entry : d.descriptor = tableEntry v c
  wellFormed : d.descriptor.wellFormed c = true
  length : (d.pre ++ d.ops ++ d.post).length = (d.descriptor.pre ++ d.descriptor.ops ++ d.descriptor.post).length

theorem CycleWords.fits_iff : d.Fits v c ↔
    d.descriptor = tableEntry v c ∧ d.descriptor.wellFormed c = true ∧
    (d.pre ++ d.ops ++ d.post).length = (d.descriptor.pre ++ d.descriptor.ops ++ d.descriptor.post).length :=
  ⟨fun ⟨h1, h2, h3⟩ => ⟨h1, h2, h3⟩, fun ⟨h1, h2, h3⟩ => ⟨h1, h2, h3⟩⟩

/-- The rows of both tables, one by one. -/
theorem cycleTable_fits (v : Variant) :
    ∀ (k : Nat) (h : k < (cycleTable v).length), (cycleTable v)[k].Fits v (k + 1) := by
  simp only [CycleWords.fits_iff]
  cases v with
  | v63 => decide +kernel
  | v65 => decide +kernel

theorem cycleWords_fits (hd : cycleWords v c = some d) : d.Fits v c := by
  obtain ⟨k, rfl, hk, rfl⟩ := cycleWords_eq_some_iff.mp hd
  exact cycleTable_fits v k hk

/-- Settles O13: every cycle of a line has a row, and the row fits. -/
theorem cycleTablesAreTheParametrisedTable : Obligations.CycleTablesAreTheParametrisedTable := by
  intro v
  refine ⟨fun c hlow hhigh => ?_, fun c hc => cycleWords_eq_none hc⟩
  obtain ⟨d, hd⟩ := exists_cycleWords hlow hhigh
  exact ⟨d, hd, CycleWords.fits_iff.mp (cycleWords_fits hd)⟩

end CycleTable

/-! ### IDLE and REFRESH (R130, R131) -/

/-- A bus operation's places, read off the two tables. -/
theorem placedOps_of_tables {w : Byte} {i : Instr} {places : Variant → List (Nat × Nat)}
    (hdecode : decodeMicroOp w = .ok i) (hencode : encode i = [w])
    (h63 : placesOf CycleWords.pre w .v63 = [] ∧ placesOf CycleWords.ops w .v63 = places .v63 ∧
      placesOf CycleWords.post w .v63 = [])
    (h65 : placesOf CycleWords.pre w .v65 = [] ∧ placesOf CycleWords.ops w .v65 = places .v65 ∧
      placesOf CycleWords.post w .v65 = []) : PlacedOps w i places := by
  refine ⟨hdecode, hencode, fun v => ?_⟩
  cases v with
  | v63 => exact h63
  | v65 => exact h65

/-- Counting down by one, in numbers: 0 is followed by 255 (R131). -/
theorem sub_one_eq_ofNat (b : Byte) : b - 1 = BitVec.ofNat 8 ((b.toNat + 255) % 256) := by
  bv_omega

theorem execIdle_eq (s : State) : execIdle s = .next (readMemory s 0x3FFF) := rfl

theorem execRefresh_eq (s : State) : execRefresh s = .next { readMemory s (refreshAddr s) with
    refreshCounter := BitVec.ofNat 8 ((s.refreshCounter.toNat + 255) % 256) } := by
  rw [← sub_one_eq_ofNat, ← State.refreshAddress_eq]
  rfl

/-- Settles O27: the places by reading through the tables, the effects by the address and the counter in numbers. -/
theorem idleAndRefresh : Obligations.IdleAndRefresh :=
  ⟨placedOps_of_tables rfl rfl (by decide +kernel) (by decide +kernel),
    placedOps_of_tables rfl rfl (by decide +kernel) (by decide +kernel),
    fun s => ⟨execIdle_eq s, execRefresh_eq s⟩⟩

/-! ### A whole `STEP` completes and moves the cursor by one

Every item before the cursor advance runs in the cycle the tables place it in, and leaves the cursor where it is. -/

section WholeStep

variable {i : Instr} {s : State} {d : CycleWords}

/-- An instruction completes in every cycle that gives it the column it needs. -/
theorem exec_runs (h : i.wellPlaced s.cursor.cycleInLine = true) : Result.Runs (exec i s) := by
  cases i with
  | matrix =>
    simp only [Instr.wellPlaced, Bool.and_eq_true, decide_eq_true_eq] at h
    exact ⟨_, execMatrix_of_some (dif_pos h)⟩
  | gfx =>
    simp only [Instr.wellPlaced, Bool.and_eq_true, decide_eq_true_eq] at h
    exact ⟨_, execGfx_of_some (dif_pos h)⟩
  | _ => exact ⟨_, rfl⟩

theorem wellPlaced_of_trigger (h : i.kind = .trigger) (c : Nat) : i.wellPlaced c = true := by
  cases i with
  | matrix | gfx => cases h
  | _ => rfl

theorem mem_decodeWords {w : Byte} {ws : List Byte} (hw : w ∈ ws) (hi : decodeMicroOp w = .ok i) :
    i ∈ decodeWords ws :=
  List.mem_filterMap.mpr ⟨w, hw, by rw [hi]⟩

/-- In a well-formed descriptor every instruction has the column it needs. -/
theorem Descriptor.wellPlaced_of_wellFormed {d : Descriptor} {c : Nat} (hd : d.wellFormed c = true)
    (hi : i ∈ d.pre ++ d.ops ++ d.post) : i.wellPlaced c = true := by
  simp only [Descriptor.wellFormed, Bool.and_eq_true, List.all_eq_true, decide_eq_true_eq] at hd
  obtain ⟨⟨⟨hpre, hpost⟩, hops⟩, -⟩ := hd
  simp only [List.mem_append] at hi
  obtain (hi | hi) | hi := hi
  · exact wellPlaced_of_trigger (hpre i hi) c
  · exact (hops i hi).2
  · exact wellPlaced_of_trigger (hpost i hi) c

/-- Each word of a cycle's descriptor decodes to an instruction that has its column there. -/
theorem exists_wellPlaced {v : Variant} {c : Nat} (hd : cycleWords v c = some d) {w : Byte}
    (hw : w ∈ d.pre ++ d.ops ++ d.post) : ∃ i, decodeMicroOp w = .ok i ∧ i.wellPlaced c = true := by
  obtain ⟨k, -, hk, hrow⟩ := cycleWords_eq_some_iff.mp hd
  obtain ⟨i, hi⟩ := (cycleTable_decode v d (hrow ▸ List.getElem_mem hk)).exists_instr hw
  refine ⟨i, hi, Descriptor.wellPlaced_of_wellFormed (cycleWords_fits hd).wellFormed ?_⟩
  simp only [CycleWords.descriptor, List.mem_append] at hw ⊢
  exact hw.imp (Or.imp (mem_decodeWords · hi) (mem_decodeWords · hi)) (mem_decodeWords · hi)

/-- From `s` to `t` neither the cursor nor the parameters changed. -/
def SameCycle (s t : State) : Prop := t.cursor = s.cursor ∧ t.params = s.params

/-- An item that may stand in cycle `c` before the cursor advance. -/
def Work.Within (c : Nat) (w : Work) : Prop :=
  w = .arbitrate ∨ ∃ b i, w = .word b ∧ decodeMicroOp b = .ok i ∧ i.wellPlaced c = true

theorem performWork_within {w : Work} (h : w.Within s.cursor.cycleInLine) :
    ∃ t, performWork w s = .next t ∧ SameCycle s t := by
  obtain rfl | ⟨b, i, rfl, hi, hplaced⟩ := h
  · exact ⟨_, rfl, s.arbitrate_cursor, s.arbitrate_params⟩
  · obtain ⟨t, ht⟩ := exec_runs hplaced
    obtain ⟨hcursor, hparams, -⟩ := (State.stepSide_eq_iff s t).mp (exec_stepSide ht)
    exact ⟨t, (performWord_of_decode hi s).trans ht, hcursor, hparams⟩

theorem runWork_within {ws : List Work} (h : ∀ w ∈ ws, w.Within s.cursor.cycleInLine) :
    ∃ t, runWork ws s = .next t ∧ SameCycle s t := by
  induction ws generalizing s with
  | nil => exact ⟨s, rfl, rfl, rfl⟩
  | cons w ws ih =>
    obtain ⟨u, hu, hcursor, hparams⟩ := performWork_within (h w List.mem_cons_self)
    obtain ⟨t, ht, hcursor', hparams'⟩ := ih (s := u) fun x hx => hcursor ▸ h x (List.mem_cons_of_mem w hx)
    exact ⟨t, (Result.andThen_eq_next _ _ _).mpr ⟨u, hu, ht⟩, hcursor'.trans hcursor, hparams'.trans hparams⟩

/-- The items of a cycle are those that belong in it, and then the cursor advance. -/
theorem CycleWords.items_within {v : Variant} {c : Nat} (hd : cycleWords v c = some d) :
    ∃ front, d.items = front ++ [.advance] ∧ ∀ w ∈ front, w.Within c := by
  refine ⟨_, rfl, fun w hw => ?_⟩
  have hword : ∀ b ∈ d.pre ++ d.ops ++ d.post, Work.Within c (.word b) := fun b hb =>
    have ⟨i, hi, hplaced⟩ := exists_wellPlaced hd hb
    .inr ⟨b, i, rfl, hi, hplaced⟩
  simp only [List.mem_append, List.mem_map, List.mem_singleton] at hw hword
  obtain ((⟨b, hb, rfl⟩ | rfl) | ⟨b, hb, rfl⟩) | ⟨b, hb, rfl⟩ := hw
  · exact hword b (.inl (.inl hb))
  · exact .inl rfl
  · exact hword b (.inl (.inr hb))
  · exact hword b (.inr hb)

/-- A `STEP` in a cycle of the table completes, and what it does to the cursor is the cursor advance. -/
theorem chipStep_completes (hlow : 1 ≤ s.cursor.cycleInLine)
    (hhigh : s.cursor.cycleInLine ≤ s.params.cyclesPerLine) :
    ∃ u, SameCycle s u ∧ chipStep s = .next u.advanceCursor := by
  obtain ⟨d, hd⟩ := exists_cycleWords hlow hhigh
  obtain ⟨front, hitems, hwithin⟩ := CycleWords.items_within hd
  obtain ⟨u, hu, hcursor, hparams⟩ := runWork_within (s := s.lightPenSample) (by rwa [s.lightPenSample_cursor])
  refine ⟨u, ⟨hcursor.trans s.lightPenSample_cursor, hparams.trans s.lightPenSample_params⟩, ?_⟩
  unfold chipStep
  rw [hd]
  dsimp only
  rw [hitems, runWork_append, hu]
  rfl

end WholeStep

end Sys2Proof.Machine

/-! PROOFS of the statements of spec/40_cycle_machine.md, continued: cycle coverage (R150). -/

namespace Sys2Proof.Machine

-- As in the tests: proofs elaborated side by side take more memory than a check of the package has.
set_option Elab.async false

/-! ### The cursor by itself (R12, R123) -/

/-- What the cursor advance does to the cursor (R123). -/
def Cursor.next (p : Params) (c : Cursor) : Cursor :=
  if c.cycleInLine = p.cyclesPerLine then
    if c.scanline.toNat + 1 = p.totalLines then ⟨0, 1, c.globalCycleCounter + 1⟩
    else ⟨c.scanline + 1, 1, c.globalCycleCounter + 1⟩
  else ⟨c.scanline, c.cycleInLine + 1, c.globalCycleCounter + 1⟩

theorem State.advanceCursor_cursor (s : State) : s.advanceCursor.cursor = s.cursor.next s.params := by
  unfold Cursor.next
  split
  · rename_i hc
    split
    · rename_i hl
      rw [State.advanceCursor_of_frameEnd hc hl, State.frameWrap_cursor]
    · rename_i hl
      rw [State.advanceCursor_of_lineEnd hc hl]
  · rename_i hc
    rw [State.advanceCursor_of_midLine hc]

/-- The ranges of the cursor (R12), with those of the parameters that keep `scanline` inside its 9 bits (R375). -/
structure Cursor.InRange (p : Params) (c : Cursor) : Prop where
  cycleLow : 1 ≤ c.cycleInLine
  cycleHigh : c.cycleInLine ≤ p.cyclesPerLine
  line : c.scanline.toNat < p.totalLines
  lines : p.totalLines ≤ 512

theorem State.Good.cursor_inRange {s : State} (h : s.Good) : s.cursor.InRange s.params where
  cycleLow := h.cycleLow
  cycleHigh := h.cycleHigh
  line := h.line
  lines := by
    have hvalid := h.params
    simp only [Params.valid, Bool.and_eq_true, decide_eq_true_eq] at hvalid
    exact hvalid.2

/-- How many cycles of the frame lie before the cursor. -/
def Cursor.position (p : Params) (c : Cursor) : Nat := p.cyclesPerLine * c.scanline.toNat + (c.cycleInLine - 1)

section Position

variable {p : Params} {c : Cursor}

theorem scanline_add_one (h : c.InRange p) (hl : c.scanline.toNat + 1 ≠ p.totalLines) :
    (c.scanline + 1).toNat = c.scanline.toNat + 1 := by
  have hline := h.line
  have hlines := h.lines
  rw [BitVec.toNat_add, show BitVec.toNat (1 : BitVec 9) = 1 from rfl]
  omega

theorem Cursor.next_inRange (h : c.InRange p) : (c.next p).InRange p := by
  obtain ⟨hlow, hhigh, hline, hlines⟩ := h
  unfold Cursor.next
  split
  · split
    · exact ⟨Nat.le_refl 1, cyclesPerLine_pos p, Nat.lt_of_le_of_lt (Nat.zero_le _) hline, hlines⟩
    · rename_i hl
      have hnext := scanline_add_one ⟨hlow, hhigh, hline, hlines⟩ hl
      exact ⟨Nat.le_refl 1, cyclesPerLine_pos p, by dsimp only; omega, hlines⟩
  · exact ⟨Nat.succ_pos _, by dsimp only; omega, hline, hlines⟩

theorem Cursor.position_lt (h : c.InRange p) : c.position p < p.cyclesPerLine * p.totalLines := by
  obtain ⟨hlow, hhigh, hline, -⟩ := h
  calc c.position p < p.cyclesPerLine * c.scanline.toNat + p.cyclesPerLine := by unfold Cursor.position; omega
    _ = p.cyclesPerLine * (c.scanline.toNat + 1) := (Nat.mul_succ _ _).symm
    _ ≤ p.cyclesPerLine * p.totalLines := Nat.mul_le_mul_left _ hline

theorem Cursor.position_mod (h : c.InRange p) : c.position p % p.cyclesPerLine = c.cycleInLine - 1 := by
  obtain ⟨hlow, hhigh, -, -⟩ := h
  rw [Cursor.position, Nat.mul_add_mod, Nat.mod_eq_of_lt (by omega)]

theorem Cursor.position_div (h : c.InRange p) : c.position p / p.cyclesPerLine = c.scanline.toNat := by
  obtain ⟨hlow, hhigh, -, -⟩ := h
  rw [Cursor.position, Nat.mul_add_div (cyclesPerLine_pos p), Nat.div_eq_of_lt (by omega), Nat.add_zero]

/-- The position goes up by one, and after the last of the frame it is 0. -/
theorem Cursor.position_next (h : c.InRange p) :
    (c.next p).position p = (c.position p + 1) % (p.cyclesPerLine * p.totalLines) := by
  have hbound := Cursor.position_lt (Cursor.next_inRange h)
  have hlow := h.cycleLow
  have hpos := cyclesPerLine_pos p
  unfold Cursor.next at hbound ⊢
  split at hbound
  · rename_i hc
    have hend : c.position p + 1 = p.cyclesPerLine * (c.scanline.toNat + 1) := by
      rw [Nat.mul_succ]
      unfold Cursor.position
      omega
    rw [if_pos hc, hend]
    split at hbound
    · rename_i hl
      rw [if_pos hl, hl, Nat.mod_self]
      rfl
    · rename_i hl
      have hnext := scanline_add_one h hl
      rw [if_neg hl, ← hnext]
      exact (Nat.mod_eq_of_lt hbound).symm
  · rename_i hc
    rw [if_neg hc, ← Nat.mod_eq_of_lt hbound]
    unfold Cursor.position
    dsimp only
    congr 1
    omega

end Position

/-! ### Many cycles -/

section Coverage

variable {p : Params} {c : Cursor}

theorem Cursor.iterate_inRange (h : c.InRange p) (n : Nat) : ((Cursor.next p)^[n] c).InRange p := by
  induction n with
  | zero => exact h
  | succ n ih =>
    rw [Function.iterate_succ_apply']
    exact Cursor.next_inRange ih

theorem Cursor.iterate_position (h : c.InRange p) (n : Nat) :
    ((Cursor.next p)^[n] c).position p = (c.position p + n) % (p.cyclesPerLine * p.totalLines) := by
  induction n with
  | zero => exact (Nat.mod_eq_of_lt (Cursor.position_lt h)).symm
  | succ n ih =>
    rw [Function.iterate_succ_apply', Cursor.position_next (Cursor.iterate_inRange h n), ih, Nat.mod_add_mod,
      Nat.add_assoc]

theorem Cursor.next_globalCycleCounter (p : Params) (c : Cursor) :
    (c.next p).globalCycleCounter = c.globalCycleCounter + 1 := by
  unfold Cursor.next
  split
  · split <;> rfl
  · rfl

theorem Cursor.iterate_globalCycleCounter (p : Params) (c : Cursor) (n : Nat) :
    ((Cursor.next p)^[n] c).globalCycleCounter = c.globalCycleCounter + BitVec.ofNat 64 n := by
  induction n with
  | zero => exact (BitVec.add_zero _).symm
  | succ n ih =>
    rw [Function.iterate_succ_apply', Cursor.next_globalCycleCounter, ih, BitVec.ofNat_add, BitVec.add_assoc]
    rfl

/-- After `CPL` cycles the cycle is the same, and the line the next one (R150). -/
theorem Cursor.iterate_line (h : c.InRange p) :
    ((Cursor.next p)^[p.cyclesPerLine] c).cycleInLine = c.cycleInLine ∧
    ((Cursor.next p)^[p.cyclesPerLine] c).scanline.toNat = (c.scanline.toNat + 1) % p.totalLines := by
  have hrange := Cursor.iterate_inRange h p.cyclesPerLine
  have hposition := Cursor.iterate_position h p.cyclesPerLine
  constructor
  · have hmod := Cursor.position_mod hrange
    rw [hposition, Nat.mod_mul_right_mod, Nat.add_mod_right, Cursor.position_mod h] at hmod
    exact (Nat.sub_one_cancel h.cycleLow hrange.cycleLow hmod).symm
  · rw [← Cursor.position_div hrange, hposition, Nat.mod_mul_right_div_self,
      Nat.add_div_right _ (cyclesPerLine_pos p), Cursor.position_div h]

/-- After the cycles of a whole frame cycle and line are the same (R150). -/
theorem Cursor.iterate_frame (h : c.InRange p) :
    ((Cursor.next p)^[p.cyclesPerLine * p.totalLines] c).cycleInLine = c.cycleInLine ∧
    ((Cursor.next p)^[p.cyclesPerLine * p.totalLines] c).scanline = c.scanline := by
  have hrange := Cursor.iterate_inRange h (p.cyclesPerLine * p.totalLines)
  have hposition := Cursor.iterate_position h (p.cyclesPerLine * p.totalLines)
  rw [Nat.add_mod_right, Nat.mod_eq_of_lt (Cursor.position_lt h)] at hposition
  constructor
  · have hmod := Cursor.position_mod hrange
    rw [hposition, Cursor.position_mod h] at hmod
    exact (Nat.sub_one_cancel h.cycleLow hrange.cycleLow hmod).symm
  · apply BitVec.eq_of_toNat_eq
    rw [← Cursor.position_div hrange, hposition, Cursor.position_div h]

/-- Consecutive `STEP`s complete, and the cursor goes its own way through them. -/
theorem chipSteps_completes (n : Nat) {s : State} (h : s.cursor.InRange s.params) :
    ∃ t, chipSteps n s = .next t ∧ t.cursor = (Cursor.next s.params)^[n] s.cursor := by
  induction n generalizing s with
  | zero => exact ⟨s, rfl, rfl⟩
  | succ n ih =>
    obtain ⟨u, ⟨hcursor, hparams⟩, hstep⟩ := chipStep_completes h.cycleLow h.cycleHigh
    have hcursor' : u.advanceCursor.cursor = s.cursor.next s.params := by
      rw [State.advanceCursor_cursor, hcursor, hparams]
    have hparams' : u.advanceCursor.params = s.params := u.advanceCursor_params.trans hparams
    have hrange : u.advanceCursor.cursor.InRange u.advanceCursor.params := by
      rw [hcursor', hparams']
      exact Cursor.next_inRange h
    obtain ⟨t, ht, htcursor⟩ := ih hrange
    rw [hcursor', hparams'] at htcursor
    exact ⟨t, (Result.andThen_eq_next _ _ _).mpr ⟨_, hstep, ht⟩, htcursor⟩

end Coverage

/-- Settles O14: the steps complete, and the cursor's position in the frame goes up by one with each. -/
theorem cycleCoverage : Obligations.CycleCoverage := by
  intro s hs _
  have hrange := hs.cursor_inRange
  constructor
  · obtain ⟨t, ht, hcursor⟩ := chipSteps_completes s.params.cyclesPerLine hrange
    obtain ⟨hcycle, hline⟩ := Cursor.iterate_line hrange
    refine ⟨t, ht, ?_⟩
    rw [hcursor]
    exact ⟨hcycle, hline, Cursor.iterate_globalCycleCounter _ _ _⟩
  · obtain ⟨t, ht, hcursor⟩ := chipSteps_completes (s.params.cyclesPerLine * s.params.totalLines) hrange
    obtain ⟨hcycle, hline⟩ := Cursor.iterate_frame hrange
    refine ⟨t, ht, ?_⟩
    rw [hcursor]
    exact ⟨hcycle, hline, Cursor.iterate_globalCycleCounter _ _ _⟩

end Sys2Proof.Machine

/-! PROOFS of the statements of spec/41_bus_arbiter.md: the request windows, the arbitration, and that the trace keeps in
agreement with the two output lines (R161 to R163, R343). -/

namespace Sys2Proof.Machine

-- As in the tests: proofs elaborated side by side take more memory than a check of the package has.
set_option Elab.async false

open Sys2Proof.Claims

/-! ### The request windows (R161, R162) -/

section Windows

variable {s : State} {c : Nat}

/-- The model's test for `BAWindow(i)` runs through the rule's list of cycles. -/
theorem inBAWindow_iff_mem_window (p : Params) (i : Fin 8) : inBAWindow p i c = true ↔ c ∈ window p.variant i := by
  simp [inBAWindow, window, baLead, pointerCycle, spr0Cycle, pointer]

theorem inBadLineWindow_iff : inBadLineWindow c = true ↔ 12 ≤ c ∧ c ≤ 54 := by
  simp [inBadLineWindow]

theorem State.busRequest_iff_requests : s.busRequest c = true ↔ requests s c := by
  have hsprites : (spriteNumbers.any fun i => s.sprites[i].dmaEnabled && inBAWindow s.params i c) = true ↔
      ∃ i : Fin 8, s.sprites[i].dmaEnabled = true ∧ c ∈ window s.params.variant i := by
    simp only [List.any_eq_true, mem_spriteNumbers, true_and, Bool.and_eq_true, inBAWindow_iff_mem_window]
  rw [State.busRequest, Bool.or_eq_true, Bool.and_eq_true, inBadLineWindow_iff, hsprites]
  rfl

/-- The table of R162: the request windows of the eight sprites. -/
def windowTable : Variant → List (List Nat)
  | .v63 => [[55, 56, 57, 58, 59], [57, 58, 59, 60, 61], [59, 60, 61, 62, 63], [61, 62, 63, 1, 2],
      [63, 1, 2, 3, 4], [2, 3, 4, 5, 6], [4, 5, 6, 7, 8], [6, 7, 8, 9, 10]]
  | .v65 => [[57, 58, 59, 60, 61], [59, 60, 61, 62, 63], [61, 62, 63, 64, 65], [63, 64, 65, 1, 2],
      [65, 1, 2, 3, 4], [2, 3, 4, 5, 6], [4, 5, 6, 7, 8], [6, 7, 8, 9, 10]]

/-- The table of R162 is what R161 calculates. -/
theorem window_eq_windowTable (v : Variant) : ∀ i : Fin 8, window v i = (windowTable v).getD i.val [] := by
  cases v <;> decide

/-- Settles O11: a request is the rule's, and the rule's windows are those of the table. -/
theorem busRequestWindows : Obligations.BusRequestWindows := by
  intro s c _ _ windows
  have htable : windows = windowTable s.params.variant := by
    cases hv : s.params.variant <;> simp only [windows, hv, windowTable]
  rw [State.busRequest_iff_requests, requests, htable]
  simp only [window_eq_windowTable]

end Windows

/-! ### The arbitration (R163) -/

section Arbitration

variable {s : State}

theorem State.seizeBus_eq (s : State) :
    s.seizeBus = { s with
      arbiter := ⟨true,
        if s.arbiter.busRequestedPrev then s.arbiter.busOwnedSince else s.cursor.globalCycleCounter,
        s.params.waitAdj, true⟩
      env := { s.env with
        events :=
          if s.arbiter.cpuSuspended then s.env.events
          else (s.cursor.globalCycleCounter, .suspendCpu) :: s.env.events } } := by
  unfold State.seizeBus
  dsimp only
  split <;> rfl

theorem State.releaseBus_of_over (hc : s.arbiter.cpuSuspended = true) (h0 : s.arbiter.resumeCountdown = 0) :
    s.releaseBus = { s with
      arbiter := ⟨false, s.arbiter.busOwnedSince, 0, false⟩
      env := { s.env with events := (s.cursor.globalCycleCounter, .resumeCpu) :: s.env.events } } := by
  rw [State.releaseBus, if_pos hc, if_pos h0]
  simp only [h0]
  rfl

theorem State.releaseBus_of_counting (hc : s.arbiter.cpuSuspended = true) (h0 : s.arbiter.resumeCountdown ≠ 0) :
    s.releaseBus = { s with arbiter := ⟨true, s.arbiter.busOwnedSince, s.arbiter.resumeCountdown - 1, false⟩ } := by
  rw [State.releaseBus, if_pos hc, if_neg h0]
  simp only [hc]

theorem State.releaseBus_of_running (hc : s.arbiter.cpuSuspended = false) :
    s.releaseBus = { s with arbiter := ⟨false, s.arbiter.busOwnedSince, s.arbiter.resumeCountdown, false⟩ } := by
  rw [State.releaseBus, if_neg (Bool.eq_false_iff.mp hc)]
  simp only [hc]

theorem State.arbitrate_of_requests (h : requests s s.cursor.cycleInLine) : s.arbitrate = s.seizeBus :=
  if_pos (State.busRequest_iff_requests.mpr h)

theorem State.arbitrate_of_not_requests (h : ¬ requests s s.cursor.cycleInLine) : s.arbitrate = s.releaseBus :=
  if_neg fun hb => h (State.busRequest_iff_requests.mp hb)

/-- Settles O10: the step arbitrates on the state without that item, in the four cases of R163. -/
theorem arbitrateByTheListing : Obligations.ArbitrateByTheListing := by
  intro s rest ha g a
  have hstep : step s = .next (s.withAgenda rest).arbitrate := step_of_agenda ha
  have hrelease (hr : ¬ requests s s.cursor.cycleInLine) : step s = .next (s.withAgenda rest).releaseBus :=
    hstep.trans (congrArg _ (State.arbitrate_of_not_requests (s := s.withAgenda rest) hr))
  refine ⟨fun hr => ?_, fun hr hc h0 => ?_, fun hr hc h0 => ?_, fun hr hc => ?_⟩
  · rw [hstep, State.arbitrate_of_requests (s := s.withAgenda rest) hr, State.seizeBus_eq]
    rfl
  · exact (hrelease hr).trans (congrArg _ (State.releaseBus_of_over (s := s.withAgenda rest) hc h0))
  · exact (hrelease hr).trans (congrArg _ (State.releaseBus_of_counting (s := s.withAgenda rest) hc h0))
  · exact (hrelease hr).trans (congrArg _ (State.releaseBus_of_running (s := s.withAgenda rest) hc))

end Arbitration

/-! ### Events and the trace (R163, R343)

A trace says whether the CPU is held and which level the interrupt sink was told. The events that tell it are those of
the two output lines; each of them moves one of the two. -/

/-- The events that tell nothing of the two output lines: the bus reads and the light-pen samples. -/
def Event.quiet : Event → Bool
  | .suspendCpu | .resumeCpu | .setIrqLine _ => false
  | _ => true

/-- A trace in which the suspensions alternate, that leaves the CPU held or not, and the sink told a level. -/
structure TraceSays (es : List (BitVec 64 × Event)) (held level : Bool) : Prop where
  suspended : suspendedBy es = held
  alternate : suspensionsAlternate es = true
  told : levelTold es = level

section Trace

variable {es : List (BitVec 64 × Event)} {held level : Bool}

theorem TraceSays.quiet (h : TraceSays es held level) (g : BitVec 64) {e : Event} (he : e.quiet = true) :
    TraceSays ((g, e) :: es) held level := by
  cases e with
  | suspendCpu | resumeCpu | setIrqLine => cases he
  | memRead | colRead | lpButton | lpX | lpY => exact ⟨h.suspended, h.alternate, h.told⟩

theorem TraceSays.suspendCpu (h : TraceSays es false level) (g : BitVec 64) :
    TraceSays ((g, .suspendCpu) :: es) true level where
  suspended := rfl
  alternate := by simp [suspensionsAlternate, h.suspended, h.alternate]
  told := h.told

theorem TraceSays.resumeCpu (h : TraceSays es true level) (g : BitVec 64) :
    TraceSays ((g, .resumeCpu) :: es) false level where
  suspended := rfl
  alternate := by simp [suspensionsAlternate, h.suspended, h.alternate]
  told := h.told

theorem TraceSays.setIrqLine (h : TraceSays es held level) (g : BitVec 64) (level' : Bool) :
    TraceSays ((g, .setIrqLine level') :: es) held level' where
  suspended := h.suspended
  alternate := h.alternate
  told := rfl

theorem State.traceGood_iff (s : State) :
    s.TraceGood ↔ TraceSays s.env.events s.arbiter.cpuSuspended s.irqLine :=
  ⟨fun h => ⟨h.suspended, h.alternate, h.told⟩, fun h => ⟨h.suspended, h.alternate, h.told⟩⟩

end Trace

/-! ### Updates that keep the trace good -/

section TraceUpdates

variable {s t : State}

/-- The agreement is about the trace, the suspension and the interrupt line alone. -/
theorem State.TraceGood.congr (h : s.TraceGood) (he : t.env.events = s.env.events)
    (hc : t.arbiter.cpuSuspended = s.arbiter.cpuSuspended) (hl : t.irqLine = s.irqLine) : t.TraceGood := by
  rw [State.traceGood_iff, he, hc, hl]
  exact s.traceGood_iff.mp h

theorem State.TraceGood.emit (h : s.TraceGood) {e : Event} (he : e.quiet = true) : (s.emit e).TraceGood :=
  (State.traceGood_iff _).mpr ((s.traceGood_iff.mp h).quiet _ he)

theorem State.TraceGood.afterMemRead (h : s.TraceGood) (a : MemAddr) : (s.afterMemRead a).TraceGood :=
  (h.emit (e := .memRead a (s.memAnswer a)) rfl).congr rfl rfl rfl

theorem State.TraceGood.afterColRead (h : s.TraceGood) (a : ColAddr) : (s.afterColRead a).TraceGood :=
  (h.emit (e := .colRead a (s.colAnswer a)) rfl).congr rfl rfl rfl

/-- The mask register is the one register the interrupt line looks at. -/
theorem State.TraceGood.setReg (h : s.TraceGood) {a : Nat} (ha : a ≠ 0x1A) (v : Byte) : (s.setReg a v).TraceGood :=
  h.congr rfl rfl (State.irqLine_congr rfl (State.reg_setReg_other s a 0x1A v ha))

/-- When the trace is right about the suspension and about the level the line had, reporting the line makes it right
about the present level. -/
theorem State.traceGood_reportIrq {was : Bool} (h : TraceSays t.env.events t.arbiter.cpuSuspended was) :
    (State.reportIrq was t).TraceGood := by
  rw [State.traceGood_iff, State.reportIrq_events, State.reportIrq_arbiter, State.reportIrq_irqLine]
  split
  · rename_i hsame
    exact hsame ▸ h
  · exact h.setIrqLine _ _

/-- After a change of the flags or the mask, the line is reported against the level it had before. -/
theorem State.TraceGood.reportIrq (h : s.TraceGood) (he : t.env.events = s.env.events)
    (hc : t.arbiter.cpuSuspended = s.arbiter.cpuSuspended) : (State.reportIrq s.irqLine t).TraceGood := by
  apply State.traceGood_reportIrq
  rw [he, hc]
  exact s.traceGood_iff.mp h

theorem State.TraceGood.raiseIrq (h : s.TraceGood) (m : BitVec 4) : (s.raiseIrq m).TraceGood := h.reportIrq rfl rfl

theorem State.TraceGood.acknowledgeIrq (h : s.TraceGood) (m : BitVec 4) : (s.acknowledgeIrq m).TraceGood :=
  h.reportIrq rfl rfl

theorem State.TraceGood.spriteData (h : s.TraceGood) (i : Fin 8) (j : Fin 3) : (s.spriteData i j).TraceGood := by
  unfold State.spriteData
  dsimp only
  split
  · exact (h.afterMemRead _).congr rfl rfl rfl
  · exact h.afterMemRead _

theorem State.TraceGood.fetchColumn (h : s.TraceGood) (k : Fin 40) : (s.fetchColumn k).TraceGood :=
  ((h.afterMemRead _).afterColRead _).congr rfl rfl rfl

theorem State.TraceGood.fetchGraphics (h : s.TraceGood) (k : Fin 40) : (s.fetchGraphics k).TraceGood :=
  (h.afterMemRead (s.gfxAddress k)).congr rfl rfl rfl

/-- T_DRAW raises flags; the registers it writes are not the mask (R236). -/
theorem State.TraceGood.drawLine (h : s.TraceGood) : s.drawLine.TraceGood := by
  have hmask : s.drawLine.reg 0x1A = s.reg 0x1A := s.drawLine_reg_other (by decide) (by decide)
  rw [State.drawLine_eq] at hmask ⊢
  exact (h.raiseIrq _).congr rfl rfl (State.irqLine_congr rfl (hmask.trans (State.raiseIrq_reg ..).symm))

theorem State.TraceGood.lightPenTrigger (h : s.TraceGood) : s.lightPenTrigger.TraceGood :=
  ((((h.emit rfl).setReg (by decide) _).emit rfl).setReg (by decide) _).raiseIrq _ |>.congr rfl rfl rfl

theorem State.TraceGood.lightPenSample (h : s.TraceGood) : s.lightPenSample.TraceGood := by
  unfold State.lightPenSample
  dsimp only
  split
  · exact (h.emit rfl).lightPenTrigger.congr rfl rfl rfl
  · exact (h.emit rfl).congr rfl rfl rfl

/-- A requesting cycle suspends the CPU unless it is held already (R163). -/
theorem State.TraceGood.seizeBus (h : s.TraceGood) : s.seizeBus.TraceGood := by
  have hs := s.traceGood_iff.mp h
  rw [State.seizeBus_eq, State.traceGood_iff]
  cases hc : s.arbiter.cpuSuspended <;> rw [hc] at hs
  · exact hs.suspendCpu _
  · exact hs

/-- Any other cycle resumes the CPU only when it is held (R163). -/
theorem State.TraceGood.releaseBus (h : s.TraceGood) : s.releaseBus.TraceGood := by
  have hs := s.traceGood_iff.mp h
  rw [State.traceGood_iff]
  cases hc : s.arbiter.cpuSuspended <;> rw [hc] at hs
  · rw [State.releaseBus_of_running hc]
    exact hs
  · by_cases h0 : s.arbiter.resumeCountdown = 0
    · rw [State.releaseBus_of_over hc h0]
      exact hs.resumeCpu _
    · rw [State.releaseBus_of_counting hc h0]
      exact hs

theorem State.TraceGood.arbitrate (h : s.TraceGood) : s.arbitrate.TraceGood := by
  unfold State.arbitrate
  split
  · exact h.seizeBus
  · exact h.releaseBus

theorem State.TraceGood.advanceCursor (h : s.TraceGood) : s.advanceCursor.TraceGood :=
  h.congr (congrArg _ s.advanceCursor_env) (congrArg _ s.advanceCursor_arbiter)
    (State.irqLine_congr s.advanceCursor_irqFlags (s.advanceCursor_reg _))

@[simp] theorem State.emit_irqLine (s : State) (e : Event) : (s.emit e).irqLine = s.irqLine := rfl

theorem State.atReset_irqLine (p : Params) (e : Environment) : (State.atReset p e).irqLine = false := by
  simp [State.irqLine, State.atReset]

/-- `RESET` releases a held CPU, and then reports the line, which is low (R371). -/
theorem State.resetChip_eq (s : State) :
    s.resetChip = State.reportIrq s.irqLine
      (if s.arbiter.cpuSuspended then (State.atReset s.params s.env).emit .resumeCpu
       else State.atReset s.params s.env) := by
  have hlow := State.atReset_irqLine s.params s.env
  cases hc : s.arbiter.cpuSuspended <;> cases hl : s.irqLine <;>
    simp [State.resetChip, State.reportIrq, hc, hl, hlow]

theorem State.TraceGood.resetChip (h : s.TraceGood) : s.resetChip.TraceGood := by
  have hs := s.traceGood_iff.mp h
  rw [State.resetChip_eq]
  apply State.traceGood_reportIrq
  cases hc : s.arbiter.cpuSuspended <;> rw [hc] at hs
  · exact hs
  · exact hs.resumeCpu _

end TraceUpdates

/-! ### Every instruction keeps the trace good -/

section TraceExec

variable {s t : State} {i : Instr}

theorem exec_traceGood_of_port (hk : i.kind = .port) (hs : s.TraceGood) (h : exec i s = .next t) : t.TraceGood := by
  obtain ⟨b, he⟩ | ⟨a, ha, he⟩ | ⟨a, v, -, ha, he⟩ | he | ⟨v, -, he⟩ | ⟨v, -, he⟩ := exec_port i s hk <;>
    rw [he] at h <;> cases h
  · exact hs.congr rfl rfl rfl
  · have hread : (s.portReturn (s.reg a)).TraceGood := hs.congr rfl rfl rfl
    exact hread.setReg (by omega) 0
  · exact hs.setReg (fun h1A => ha (by simp [h1A])) v
  · exact hs
  · exact hs.acknowledgeIrq _
  · exact hs.reportIrq rfl rfl

theorem execMatrix_traceGood (hs : s.TraceGood) (h : execMatrix s = .next t) : t.TraceGood := by
  cases hk : matrixColumn s.cursor.cycleInLine with
  | none => rw [execMatrix_of_none hk] at h; cases h
  | some k =>
    rw [execMatrix_of_some hk] at h
    cases h
    split
    · exact hs.fetchColumn k
    · exact hs

theorem execGfx_traceGood (hs : s.TraceGood) (h : execGfx s = .next t) : t.TraceGood := by
  cases hk : gfxColumn s.cursor.cycleInLine with
  | none => rw [execGfx_of_none hk] at h; cases h
  | some k =>
    rw [execGfx_of_some hk] at h
    cases h
    exact hs.fetchGraphics k

theorem exec_traceGood_of_busOperation (hk : i.kind = .busOperation) (hs : s.TraceGood) (h : exec i s = .next t) :
    t.TraceGood := by
  cases i with
  | idle => cases h; exact hs.afterMemRead _
  | refresh => cases h; exact (hs.afterMemRead s.refreshAddress).congr rfl rfl rfl
  | sptr n => cases h; exact (hs.afterMemRead (s.pointerAddress n)).congr rfl rfl rfl
  | sdata0 n => cases h; exact hs.spriteData n 0
  | sdata1 n => cases h; exact hs.spriteData n 1
  | sdata2 n => cases h; exact hs.spriteData n 2
  | matrix => exact execMatrix_traceGood hs h
  | gfx => exact execGfx_traceGood hs h
  | _ => cases hk

/-- Only T_RASTER and T_DRAW touch the trace or the line, by raising flags (R236, R345). -/
theorem exec_traceGood_of_trigger (hk : i.kind = .trigger) (hs : s.TraceGood) (h : exec i s = .next t) :
    t.TraceGood := by
  cases i with
  | tRaster =>
    cases h
    split
    · exact hs.raiseIrq _
    · exact hs
  | tDraw => cases h; exact hs.drawLine
  | tBadline | tVborder | tClearline | tVcload | tSpradv | tYexp | tDmachk | tSprdisp | tRcadv | tHleft | tHright
  | tBsample0 | tBsample1 | tBsample2 | tBsample3 | tBsample4 => cases h; exact hs.congr rfl rfl rfl
  | _ => cases hk

theorem exec_traceGood (hs : s.TraceGood) (h : exec i s = .next t) : t.TraceGood := by
  cases hk : i.kind with
  | port => exact exec_traceGood_of_port hk hs h
  | busOperation => exact exec_traceGood_of_busOperation hk hs h
  | trigger => exact exec_traceGood_of_trigger hk hs h

end TraceExec

/-- Settles O59, along what a step can do: each item, request and instruction keeps the trace good. -/
theorem stepKeepsTheTraceGood : Obligations.StepKeepsTheTraceGood := by
  intro s t hs h
  have hitem (rest : List Work) : (s.withAgenda rest).TraceGood := hs.congr rfl rfl rfl
  have hrequest (r : List Request) : (s.withRequests r).TraceGood := hs.congr rfl rfl rfl
  obtain ⟨w, rest, i, -, -, he⟩ | ⟨rest, -, rfl⟩ | ⟨rest, -, rfl⟩ | ⟨d, r, -, -, -, rfl⟩ |
    ⟨w, v, r, i, l, -, -, -, he⟩ | ⟨r, -, -, rfl⟩ | ⟨b, x, y, r, -, -, rfl⟩ | ⟨a, v, r, -, -, rfl⟩ |
    ⟨a, v, r, -, -, rfl⟩ := step_cases s t h
  case inl => exact exec_traceGood (hitem rest) he
  · exact (hitem rest).arbitrate
  · exact (hitem rest).advanceCursor
  · exact (hrequest r).lightPenSample.congr rfl rfl rfl
  · exact exec_traceGood (hrequest r) he
  · exact (hrequest r).resetChip
  · exact hs.congr rfl rfl rfl
  · exact hs.congr rfl rfl rfl
  · exact hs.congr rfl rfl rfl

end Sys2Proof.Machine

/-! PROOFS of the statements of spec/42_badline_display.md: MATRIX, the bad-line decision, the load of the video
counter and the row counter advance (R176 to R180). -/

namespace Sys2Proof.Machine

-- As in the tests: proofs elaborated side by side take more memory than a check of the package has.
set_option Elab.async false

open Sys2Proof.Claims

/-- A micro-operation's places, read off the two tables: a trigger's as well as a bus operation's. -/
theorem placed_of_tables {w : Byte} {i : Instr} {pre ops post : Variant → List (Nat × Nat)}
    (hdecode : decodeMicroOp w = .ok i) (hencode : encode i = [w])
    (h63 : placesOf CycleWords.pre w .v63 = pre .v63 ∧ placesOf CycleWords.ops w .v63 = ops .v63 ∧
      placesOf CycleWords.post w .v63 = post .v63)
    (h65 : placesOf CycleWords.pre w .v65 = pre .v65 ∧ placesOf CycleWords.ops w .v65 = ops .v65 ∧
      placesOf CycleWords.post w .v65 = post .v65) : Placed w i pre ops post := by
  refine ⟨hdecode, hencode, fun v => ?_⟩
  cases v with
  | v63 => exact h63
  | v65 => exact h65

/-! ### MATRIX (R179) -/

section Matrix

variable {s : State}

/-- The column of a matrix cycle (R179). -/
theorem matrixColumn_add (k : Fin 40) : matrixColumn (15 + k.val) = some k := by
  have hk := k.isLt
  rw [matrixColumn, dif_pos (by omega)]
  exact congrArg some (Fin.ext (Nat.add_sub_cancel_left 15 k.val))

/-- The two reads of a column, in the statements' vocabulary: video memory first, colour memory second (R79). -/
theorem State.fetchColumn_eq (s : State) (k : Fin 40) :
    s.fetchColumn k = { readColour (readMemory s (matrixAddr s)) s.display.videoCounter with lines :=
      { matrixLine := s.lines.matrixLine.set k (s.memAnswer (matrixAddr s))
        colorLine := s.lines.colorLine.set k
          ((readMemory s (matrixAddr s)).colAnswer s.display.videoCounter) } } := by
  rw [← State.matrixAddress_eq]
  rfl

theorem exec_matrix_of_otherLine {k : Fin 40} (hcycle : s.cursor.cycleInLine = 15 + k.val)
    (hbad : s.display.isBadLine = false) : exec .matrix s = .next s := by
  rw [exec_matrix, execMatrix_of_some (hcycle ▸ matrixColumn_add k), hbad]
  rfl

theorem exec_matrix_of_badLine {k : Fin 40} (hcycle : s.cursor.cycleInLine = 15 + k.val)
    (hbad : s.display.isBadLine = true) : exec .matrix s = .next (s.fetchColumn k) := by
  rw [exec_matrix, execMatrix_of_some (hcycle ▸ matrixColumn_add k), if_pos hbad]

end Matrix

/-- Settles O30: the cycle gives the column, and the line decides between no access and the column's two reads. -/
theorem matrixFetch : Obligations.MatrixFetch := by
  refine ⟨placedOps_of_tables rfl rfl (by decide +kernel) (by decide +kernel), fun s k hcycle => ⟨?_, ?_⟩⟩
  · exact exec_matrix_of_otherLine hcycle
  · intro hbad s1
    rw [exec_matrix_of_badLine hcycle hbad, State.fetchColumn_eq]

/-! ### The row counter advance (R178): its three statements, each by its guard -/

section RowCounter

variable {d : Display}

theorem Display.endRow_of_lastRow (h : d.rowCounter.toNat = 7) :
    d.endRow = { d with videoCounterBase := d.videoCounter, displayActive := false } :=
  if_pos (BitVec.eq_of_toNat_eq h)

theorem Display.endRow_of_not_lastRow (h : d.rowCounter.toNat ≠ 7) : d.endRow = d :=
  if_neg fun h7 => h (congrArg BitVec.toNat h7)

@[simp] theorem Display.endRow_isBadLine (d : Display) : d.endRow.isBadLine = d.isBadLine := by
  unfold Display.endRow
  split <;> rfl

theorem Display.keepActive_of_badLine (h : d.isBadLine = true) : d.keepActive = { d with displayActive := true } :=
  if_pos h

theorem Display.keepActive_of_not_badLine (h : ¬ d.isBadLine = true) : d.keepActive = d := if_neg h

/-- On a line that displays, or is about to, the second statement leaves the display active (R178). -/
theorem Display.keepActive_of_displayed (h : d.isBadLine = true ∨ d.displayActive = true) :
    d.keepActive = { d with displayActive := true } := by
  by_cases hbad : d.isBadLine = true
  · exact keepActive_of_badLine hbad
  · have hactive : d.displayActive = true := h.resolve_left hbad
    rw [keepActive_of_not_badLine hbad, ← hactive]

theorem Display.countRow_of_active (h : d.displayActive = true) :
    d.countRow = { d with rowCounter := BitVec.ofNat 3 ((d.rowCounter.toNat + 1) % 8) } := by
  have hsucc : d.rowCounter + 1 = BitVec.ofNat 3 ((d.rowCounter.toNat + 1) % 8) := by bv_omega
  rw [countRow, if_pos h, hsucc]

theorem Display.countRow_of_idle (h : ¬ d.displayActive = true) : d.countRow = d := if_neg h

/-- A bad line at the end of a row keeps the display active, and the counter goes on to the first row. -/
theorem Display.rowAdvance_of_lastRow_badLine (hrow : d.rowCounter.toNat = 7) (hbad : d.isBadLine = true) :
    d.endRow.keepActive.countRow =
      { d with videoCounterBase := d.videoCounter, displayActive := true, rowCounter := 0 } := by
  rw [keepActive_of_badLine (d.endRow_isBadLine.trans hbad), endRow_of_lastRow hrow, countRow_of_active rfl, hrow]
  rfl

theorem Display.rowAdvance_of_lastRow_otherLine (hrow : d.rowCounter.toNat = 7) (hbad : ¬ d.isBadLine = true) :
    d.endRow.keepActive.countRow = { d with videoCounterBase := d.videoCounter, displayActive := false } := by
  have hkeep : d.endRow.keepActive = d.endRow := keepActive_of_not_badLine (by rwa [endRow_isBadLine])
  rw [hkeep, endRow_of_lastRow hrow]
  exact countRow_of_idle Bool.false_ne_true

theorem Display.rowAdvance_of_displayed (hrow : d.rowCounter.toNat ≠ 7)
    (h : d.isBadLine = true ∨ d.displayActive = true) :
    d.endRow.keepActive.countRow =
      { d with displayActive := true, rowCounter := BitVec.ofNat 3 ((d.rowCounter.toNat + 1) % 8) } := by
  rw [endRow_of_not_lastRow hrow, keepActive_of_displayed h, countRow_of_active rfl]

theorem Display.rowAdvance_of_idle (hrow : d.rowCounter.toNat ≠ 7)
    (h : ¬ (d.isBadLine = true ∨ d.displayActive = true)) : d.endRow.keepActive.countRow = d := by
  obtain ⟨hbad, hidle⟩ := not_or.mp h
  rw [endRow_of_not_lastRow hrow, keepActive_of_not_badLine hbad, countRow_of_idle hidle]

end RowCounter

/-- Settles O38: one lemma for each of the four cases. -/
theorem rowCounterAdvance : Obligations.RowCounterAdvance := by
  refine ⟨placed_of_tables rfl rfl (by decide +kernel) (by decide +kernel), fun s => ?_⟩
  intro d after
  have hafter : d.endRow.keepActive.countRow = after := by
    unfold after
    split_ifs with hrow hbad hdisplayed
    · exact Display.rowAdvance_of_lastRow_badLine hrow hbad
    · exact Display.rowAdvance_of_lastRow_otherLine hrow hbad
    · exact Display.rowAdvance_of_displayed hrow hdisplayed
    · exact Display.rowAdvance_of_idle hrow hdisplayed
  rw [exec_tRcadv, execTRcadv, hafter]

/-! ### The bad-line decision (R176) -/

theorem State.inDmaWindow_eq (s : State) :
    s.inDmaWindow = decide (0x30 ≤ s.cursor.scanline.toNat ∧ s.cursor.scanline.toNat ≤ 0xF7) :=
  (Bool.decide_and _ _).symm

/-- The latch is written in the model with its old value last, in the rule with its old value first (R176). -/
theorem State.badLinesLatched_eq (s : State) :
    s.badLinesLatched = (s.display.badLinesEnabledThisFrame || (s.inDmaWindow && flag s 0x11 4)) := by
  have hden : s.den = flag s 0x11 4 := s.reg_bit_eq_flag 0x11 4
  rw [State.badLinesLatched, hden, Bool.or_comm]

/-- The comparison of the line's low three bits with `YSCROLL`, in numbers (R176). -/
theorem State.scanline_beq_yscroll (s : State) :
    (s.cursor.scanline.extractLsb' 0 3 == s.yscroll) =
      decide (s.cursor.scanline.toNat % 8 = s.regs[0x11].toNat % 8) := by
  have hline : (s.cursor.scanline.extractLsb' 0 3).toNat = s.cursor.scanline.toNat % 8 := by
    rw [BitVec.extractLsb'_toNat, Nat.shiftRight_zero]
  have hscroll : s.yscroll.toNat = s.regs[0x11].toNat % 8 := by
    have hfield : s.yscroll.toNat = s.regs[0x11].toNat / 1 % 8 := s.reg_field_toNat 0x11 0 3
    omega
  rw [beq_eq_decide, ← hline, ← hscroll]
  exact decide_eq_decide.mpr BitVec.toNat_inj.symm

/-- Settles O36: the window, the latch and the comparison of the model are those of the rule. -/
theorem badLineCondition : Obligations.BadLineCondition := by
  refine ⟨placed_of_tables rfl rfl (by decide +kernel) (by decide +kernel), fun s => ?_⟩
  rw [exec_tBadline, execTBadline, State.badLineCondition, State.scanline_beq_yscroll, State.badLinesLatched_eq,
    State.inDmaWindow_eq]

/-! ### The load of the video counter (R177) -/

/-- Settles O37: the places by reading through the tables; the effect is the rule's listing as it stands. -/
theorem videoCounterLoad : Obligations.VideoCounterLoad :=
  ⟨placed_of_tables rfl rfl (by decide +kernel) (by decide +kernel), exec_tVcload⟩

end Sys2Proof.Machine

/-! PROOFS of the statements of spec/43_graphics.md: the graphics fetch with its decode in each mode, what it depends on,
and the cleared line (R190 to R207). -/

namespace Sys2Proof.Machine

-- As in the tests: proofs elaborated side by side take more memory than a check of the package has.
set_option Elab.async false

open Sys2Proof.Claims

/-! ### The decode of a graphics byte (R191 to R200) -/

section Decode

variable (s : State) (g cd : Byte) (cc : Nibble)

theorem getLsbD_eq_bit (b : Byte) (k : Nat) : b.getLsbD k = decide (bit b k = 1) := by
  rw [BitVec.getLsbD, Nat.testBit_eq_decide_div_mod_eq]
  rfl

/-! #### The registers the decode reads, in the rules' numbers (R22, R24, R29) -/

theorem State.ecm_eq_flag : s.ecm = flag s 0x11 6 := s.reg_bit_eq_flag 0x11 6

theorem State.bmm_eq_flag : s.bmm = flag s 0x11 5 := s.reg_bit_eq_flag 0x11 5

theorem State.mcm_eq_flag : s.mcm = flag s 0x16 4 := s.reg_bit_eq_flag 0x16 4

/-- A register read with a default is the stored byte (R29). -/
theorem State.regs_getD (a : Nat) : s.regs.getD a 0 = s.reg a := by
  rw [State.reg, Vector.getD, Array.getD_eq_getD_getElem?, Vector.getElem?_toArray]

/-- A field that ends at the top of the byte is a quotient. -/
theorem highNibble_eq (b : Byte) : b.extractLsb' 4 4 = BitVec.ofNat 4 (b.toNat / 16) := by
  rw [BitVec.extractLsb', Nat.shiftRight_eq_div_pow]

theorem lowNibble_eq (b : Byte) : b.extractLsb' 0 4 = BitVec.ofNat 4 (b.toNat % 16) := by
  rw [BitVec.extractLsb', Nat.shiftRight_zero]
  bv_omega

/-- Bits 3:0 of a colour register, in numbers (R29). -/
theorem State.colourOf_eq_colour (a : Fin 47) : s.colourOf a = colour s a := by
  rw [State.colourOf, State.reg_eq_getElem s a a.isLt, lowNibble_eq]
  rfl

theorem topPair_toNat (b : Byte) : (b.extractLsb' 6 2).toNat = b.toNat / 64 := by
  have hb := b.isLt
  rw [BitVec.extractLsb'_toNat, Nat.shiftRight_eq_div_pow]
  omega

/-- Bits 2:0 of the colour nibble are its remainder (R194). -/
theorem lowColour_eq : lowColour cc = BitVec.ofNat 4 (cc.toNat % 8) := by
  revert cc
  decide

/-- Bit 3 of the colour nibble tells the upper half of the colours from the lower (R194). -/
theorem nibble_bit3_eq : cc.getLsbD 3 = !decide (cc.toNat < 8) := by
  revert cc
  decide

/-! #### The two helper decodes (R192) -/

/-- A decoded pixel as the rules list it: its colour, then its foreground bit (R190). -/
def Pixel.toPair (p : Pixel) : Nibble × Bool := (p.color, p.fg)

theorem stdPixel_toPair (c1 c0 : Nibble) (n : Nat) :
    (stdPixel g c1 c0 n).toPair = if bit g (7 - n) = 1 then (c1, true) else (c0, false) := by
  rw [stdPixel, getLsbD_eq_bit]
  by_cases h : bit g (7 - n) = 1 <;> simp [h, Pixel.toPair]

/-- Pixel `n` of `Std` is bit `7 - n` of the byte (R192). -/
theorem map_stdPixel (c1 c0 : Nibble) :
    (List.range 8).map (fun n => (stdPixel g c1 c0 n).toPair) = std g c1 c0 := by
  simp only [stdPixel_toPair]
  rfl

theorem pairCode_toNat (n : Nat) : (pairCode g n).toNat = g.toNat / 2 ^ (6 - 2 * (n / 2)) % 4 := by
  rw [pairCode, BitVec.extractLsb'_toNat, Nat.shiftRight_eq_div_pow]

/-- The palette is read by the pair code as a number (R192). -/
theorem palette_eq_getD (c0 c1 c2 c3 : Nibble) (p : BitVec 2) :
    palette c0 c1 c2 c3 p = [c0, c1, c2, c3].getD p.toNat 0 := by
  obtain rfl | rfl | rfl | rfl : p = 0 ∨ p = 1 ∨ p = 2 ∨ p = 3 := by revert p; decide
  all_goals rfl

theorem multiPixel_toPair (c0 c1 c2 c3 : Nibble) (n : Nat) :
    (multiPixel g (palette c0 c1 c2 c3) n).toPair =
      ([c0, c1, c2, c3].getD (g.toNat / 2 ^ (6 - 2 * (n / 2)) % 4) 0,
        decide (2 ≤ g.toNat / 2 ^ (6 - 2 * (n / 2)) % 4)) := by
  rw [multiPixel, Pixel.toPair, palette_eq_getD, pairCode_toNat]

/-- The two pixels of a pair of bits have its code in common (R192). -/
theorem map_multiPixel (c0 c1 c2 c3 : Nibble) :
    (List.range 8).map (fun n => (multiPixel g (palette c0 c1 c2 c3) n).toPair) = multi g c0 c1 c2 c3 := by
  simp only [multiPixel_toPair]
  rfl

/-! #### The choice of the decode (R191, R194) -/

/-- Bit 3 of the colour nibble chooses between the two helper decodes for the whole cell (R194). -/
theorem map_pixelMode1 : (List.range 8).map (fun n => (pixelMode1 s g cc n).toPair) =
    if cc.toNat < 8 then std g (lowColour cc) (s.background 0)
    else multi g (s.background 0) (s.background 1) (s.background 2) (lowColour cc) := by
  simp only [pixelMode1, nibble_bit3_eq]
  by_cases h : cc.toNat < 8
  · simp only [h, decide_true, Bool.not_true, Bool.false_eq_true, if_false, if_true]
    exact map_stdPixel g _ _
  · simp only [h, decide_false, Bool.not_false, if_false, if_true]
    exact map_multiPixel g _ _ _ _

/-- The three mode bits choose the decode (R191). -/
theorem State.decodePixel_eq (n : Nat) : s.decodePixel g cd cc n =
    match s.ecm, s.bmm, s.mcm with
    | false, false, false => pixelMode0 s g cc n
    | false, false, true => pixelMode1 s g cc n
    | false, true, false => pixelMode2 g cd n
    | false, true, true => pixelMode3 s g cd cc n
    | true, false, false => pixelMode4 s g cd cc n
    | true, false, true | true, true, false | true, true, true => pixelBlank := by
  rw [State.decodePixel, State.mode]
  cases s.ecm <;> cases s.bmm <;> cases s.mcm <;> rfl

end Decode

/-- Settles O32: the mode bits choose the same decode on both sides, and each decode is `Std` or `Multi` of the colours
the rule names. -/
theorem graphicsDecodeByMode : Obligations.GraphicsDecodeByMode := by
  intro s g cd cc
  have hpixels : (s.decodeByte g cd cc).map (fun p => (p.color, p.fg)) =
      (List.range 8).map fun n => (s.decodePixel g cd cc n).toPair := List.map_map
  simp only [hpixels, State.decodePixel_eq, decodeMode, ← s.ecm_eq_flag, ← s.bmm_eq_flag, ← s.mcm_eq_flag,
    ← lowColour_eq, ← highNibble_eq, ← lowNibble_eq, ← topPair_toNat, s.regs_getD]
  match s.ecm, s.bmm, s.mcm with
  | false, false, false => exact map_stdPixel g _ _
  | false, false, true => exact map_pixelMode1 s g cc
  | false, true, false => exact map_stdPixel g _ _
  | false, true, true => exact map_multiPixel g _ _ _ _
  | true, false, false => exact map_stdPixel g _ _
  | true, false, true | true, true, false | true, true, true => rfl

/-! ### Successive elements of a row, read back (R190, R203) -/

section Rows

variable {α : Type} {vs row : List α} {x y n : Nat}

theorem writeFrom_getD_within (hn : n < vs.length) (hrow : x + n < row.length) (d : α) :
    (writeFrom vs x row).getD (x + n) d = vs.getD n d := by
  rw [List.getD_eq_getElem?_getD, writeFrom_getElem?, if_pos (by omega), Nat.add_sub_cancel_left,
    List.getD_eq_getElem?_getD]

theorem writeFrom_getD_outside (hy : y < x ∨ x + vs.length ≤ y) (d : α) :
    (writeFrom vs x row).getD y d = row.getD y d := by
  rw [List.getD_eq_getElem?_getD, writeFrom_getElem?, if_neg (by omega), List.getD_eq_getElem?_getD]

end Rows

@[simp] theorem GraphicsLine.write_gfxColor_length (l : GraphicsLine) (x : Nat) (px : List Pixel) :
    (l.write x px).gfxColor.length = l.gfxColor.length := writeFrom_length _ _ _

@[simp] theorem GraphicsLine.write_gfxFg_length (l : GraphicsLine) (x : Nat) (px : List Pixel) :
    (l.write x px).gfxFg.length = l.gfxFg.length := writeFrom_length _ _ _

/-! ### GFX (R190) -/

section Gfx

variable {s t : State} {k : Fin 40} {px : List Pixel} {x0 x n : Nat}

/-- The column of a graphics cycle (R190). -/
theorem gfxColumn_add (k : Fin 40) : gfxColumn (16 + k.val) = some k := by
  have hk := k.isLt
  rw [gfxColumn, dif_pos (by omega)]
  exact congrArg some (Fin.ext (Nat.add_sub_cancel_left 16 k.val))

theorem exec_gfx_of_column (hcycle : s.cursor.cycleInLine = 16 + k.val) : exec .gfx s = .next (s.fetchGraphics k) := by
  rw [exec_gfx, execGfx_of_some (hcycle ▸ gfxColumn_add k)]

theorem State.xscroll_toNat (s : State) : s.xscroll.toNat = s.regs[0x16].toNat % 8 := by
  have hfield : s.xscroll.toNat = s.regs[0x16].toNat / 1 % 8 := s.reg_field_toNat 0x16 0 3
  rw [hfield, Nat.div_one]

theorem State.columnX_eq (s : State) (k : Fin 40) : s.columnX k = 24 + 8 * k.val + s.regs[0x16].toNat % 8 := by
  rw [State.columnX, State.xscroll_toNat]
  rfl

/-- The pixels of every column lie inside the row, with every scroll and in both variants (R203). -/
theorem State.columnX_le (s : State) (k : Fin 40) : s.columnX k + 8 ≤ rowPixels s.params := by
  have hk := k.isLt
  have hrow : 8 * 63 ≤ rowPixels s.params := by
    rw [rowPixels, Params.cyclesPerLine]
    cases s.params.variant <;> decide
  rw [State.columnX_eq]
  omega

/-- The video counter goes on by one modulo 1024 in display state (R190). -/
theorem State.videoCounterAfterGfx_eq (s : State) : s.videoCounterAfterGfx =
    if s.display.displayActive then BitVec.ofNat 10 ((s.display.videoCounter.toNat + 1) % 1024)
    else s.display.videoCounter := by
  have hsucc : s.display.videoCounter + 1 = BitVec.ofNat 10 ((s.display.videoCounter.toNat + 1) % 1024) := by bv_omega
  rw [State.videoCounterAfterGfx, hsucc]

/-- The eight pixels GFX writes for a column (R190). -/
def State.gfxPixels (s : State) (k : Fin 40) : List Pixel :=
  s.decodeByte (s.memAnswer (s.gfxAddress k)) (s.gfxMatrixByte k) (s.gfxColourNibble k)

theorem State.gfxPixels_length (s : State) (k : Fin 40) : (s.gfxPixels k).length = 8 := List.length_map _

theorem State.gfxPixels_toPairs (s : State) (k : Fin 40) : (s.gfxPixels k).map Pixel.toPair =
    decodeMode s (s.memAnswer (gfxAddr s k)) (if s.display.displayActive then s.lines.matrixLine[k] else 0)
      (if s.display.displayActive then s.lines.colorLine[k] else 0) := by
  rw [← State.gfxAddress_eq]
  exact graphicsDecodeByMode s _ _ _

theorem State.fetchGraphics_gfxLine (s : State) (k : Fin 40) :
    (s.fetchGraphics k).gfxLine = s.gfxLine.write (s.columnX k) (s.gfxPixels k) := rfl

theorem State.fetchGraphics_events (s : State) (k : Fin 40) : (s.fetchGraphics k).env.events =
    (s.cursor.globalCycleCounter, .memRead (s.gfxAddress k) (s.memAnswer (s.gfxAddress k))) :: s.env.events := rfl

theorem State.fetchGraphics_videoCounter (s : State) (k : Fin 40) :
    (s.fetchGraphics k).display.videoCounter = s.videoCounterAfterGfx := rfl

/-- GFX in the statements' vocabulary: one read, the video counter, and the line buffer. -/
theorem State.fetchGraphics_eq (s : State) (k : Fin 40) :
    s.fetchGraphics k = { readMemory s (gfxAddr s k) with
      display := { s.display with videoCounter :=
        if s.display.displayActive then BitVec.ofNat 10 ((s.display.videoCounter.toNat + 1) % 1024)
        else s.display.videoCounter }
      gfxLine := (s.fetchGraphics k).gfxLine } := by
  rw [← State.videoCounterAfterGfx_eq, ← State.gfxAddress_eq]
  rfl

/-- Inside the row, what is read back is the pixel that was written. -/
theorem pixelAt_write_within (ht : t.gfxLine = s.gfxLine.write x0 px) (hn : n < px.length)
    (hcolor : x0 + n < s.gfxLine.gfxColor.length) (hfg : x0 + n < s.gfxLine.gfxFg.length) :
    (px.map Pixel.toPair)[n]? = some (t.gfxColorAt (x0 + n), t.gfxFgAt (x0 + n)) := by
  rw [State.gfxColorAt, State.gfxFgAt, ht, GraphicsLine.write, writeFrom_getD_within (by simpa using hn) hcolor,
    writeFrom_getD_within (by simpa using hn) hfg]
  simp [hn, Pixel.toPair]

/-- Off the written pixels the line buffer reads as before. -/
theorem pixelAt_write_outside (ht : t.gfxLine = s.gfxLine.write x0 px) (hx : x < x0 ∨ x0 + px.length ≤ x) :
    t.gfxColorAt x = s.gfxColorAt x ∧ t.gfxFgAt x = s.gfxFgAt x := by
  rw [State.gfxColorAt, State.gfxFgAt, ht]
  exact ⟨writeFrom_getD_outside (by rwa [List.length_map]) _, writeFrom_getD_outside (by rwa [List.length_map]) _⟩

end Gfx

/-- Settles O31: the fetch writes the decoded pixels into the line buffer, from where they are read back one by one. -/
theorem graphicsFetch : Obligations.GraphicsFetch := by
  refine ⟨placedOps_of_tables rfl rfl (by decide +kernel) (by decide +kernel), fun s k hcycle hcolor hfg => ?_⟩
  intro active g pixels x0
  have hcolumn : s.columnX k = x0 := s.columnX_eq k
  have hx0 : x0 + 8 ≤ rowPixels s.params := hcolumn ▸ s.columnX_le k
  have hlength : (s.gfxPixels k).length = 8 := s.gfxPixels_length k
  have hline : (s.fetchGraphics k).gfxLine = s.gfxLine.write x0 (s.gfxPixels k) :=
    hcolumn ▸ s.fetchGraphics_gfxLine k
  refine ⟨s.fetchGraphics k, exec_gfx_of_column hcycle, s.fetchGraphics_eq k, ?_, ?_, fun n hn => ?_, fun x hx => ?_⟩
  · rw [hline, GraphicsLine.write_gfxColor_length, hcolor]
  · rw [hline, GraphicsLine.write_gfxFg_length, hfg]
  · have hpixels : pixels = (s.gfxPixels k).map Pixel.toPair := (s.gfxPixels_toPairs k).symm
    rw [hpixels]
    exact pixelAt_write_within hline (by omega) (by omega) (by omega)
  · exact pixelAt_write_outside hline (by rwa [hlength])

/-! ### T_CLEARLINE (R205) -/

/-- Settles O39: a row of one element reads as that element everywhere. -/
theorem clearLine : Obligations.ClearLine := by
  refine ⟨placed_of_tables rfl rfl (by decide +kernel) (by decide +kernel), fun s => ?_⟩
  refine ⟨_, exec_tClearline s, rfl, List.length_replicate, List.length_replicate, fun x hx => ⟨?_, ?_⟩⟩
  · exact (List.getD_replicate _ hx).trans (s.colourOf_eq_colour 0x21)
  · exact List.getD_replicate _ hx

/-! ### What GFX depends on (R190, R207) -/

/-- The two states agree on what R190 lists as read for a column. -/
structure SameGraphicsInputs (s s' : State) (k : Fin 40) : Prop where
  displayActive : s'.display.displayActive = s.display.displayActive
  matrix : s'.lines.matrixLine[k] = s.lines.matrixLine[k]
  colourNibble : s'.lines.colorLine[k] = s.lines.colorLine[k]
  videoCounter : s'.display.videoCounter = s.display.videoCounter
  rowCounter : s'.display.rowCounter = s.display.rowCounter
  ecm : s'.ecm = s.ecm
  bmm : s'.bmm = s.bmm
  mcm : s'.mcm = s.mcm
  xscroll : s'.xscroll = s.xscroll
  cb : s'.cb = s.cb
  background : ∀ n, s'.background n = s.background n
  answer : ∀ a, s'.memAnswer a = s.memAnswer a

section Inputs

variable {s s' : State} {k : Fin 40}

/-- `CB13` is the top bit of `CB` (R27). -/
theorem State.cb13_eq (s : State) : s.cb13 = s.cb.extractLsb' 2 1 := by
  apply BitVec.eq_of_toNat_eq
  simp only [State.cb13, State.cb, BitVec.extractLsb'_toNat, Nat.shiftRight_eq_div_pow]
  omega

theorem SameGraphicsInputs.gfxAddress (h : SameGraphicsInputs s s' k) : s'.gfxAddress k = s.gfxAddress k := by
  unfold State.gfxAddress State.displayAddress State.ecmMasked State.idleGfxAddress
  rw [State.cb13_eq, State.cb13_eq, h.displayActive, h.matrix, h.videoCounter, h.rowCounter, h.ecm, h.bmm, h.cb]

theorem SameGraphicsInputs.columnX (h : SameGraphicsInputs s s' k) : s'.columnX k = s.columnX k := by
  rw [State.columnX, State.columnX, h.xscroll]

theorem State.xscroll_congr (h : s'.regs[0x16].toNat % 8 = s.regs[0x16].toNat % 8) : s'.xscroll = s.xscroll := by
  apply BitVec.eq_of_toNat_eq
  rw [State.xscroll_toNat, State.xscroll_toNat, h]

theorem State.cb_congr (h : s'.regs[0x18].toNat / 2 % 8 = s.regs[0x18].toNat / 2 % 8) : s'.cb = s.cb :=
  BitVec.eq_of_toNat_eq (((s'.reg_field_toNat 0x18 1 3).trans h).trans (s.reg_field_toNat 0x18 1 3).symm)

/-- The background colours are those of the registers 0x21 to 0x24 (R192). -/
theorem State.background_congr (h : ∀ a : Fin 47, 0x21 ≤ a → a ≤ 0x24 → colour s' a = colour s a) (n : BitVec 2) :
    s'.background n = s.background n := by
  have hn := n.isLt
  have hcolour := h ⟨0x21 + n.toNat, by omega⟩ (Fin.le_def.mpr (Nat.le_add_right 0x21 _))
    (Fin.le_def.mpr (show 0x21 + n.toNat ≤ 0x24 by omega))
  rwa [← State.colourOf_eq_colour, ← State.colourOf_eq_colour] at hcolour

/-- The decode looks at the mode bits and at the background colours alone (R191 to R200). -/
theorem SameGraphicsInputs.decodeByte (h : SameGraphicsInputs s s' k) (g cd : Byte) (cc : Nibble) :
    s'.decodeByte g cd cc = s.decodeByte g cd cc := by
  have hmode : s'.mode = s.mode := by rw [State.mode, State.mode, h.ecm, h.bmm, h.mcm]
  unfold State.decodeByte State.decodePixel pixelMode0 pixelMode1 pixelMode3 pixelMode4
  simp only [hmode, h.background]

theorem SameGraphicsInputs.gfxPixels (h : SameGraphicsInputs s s' k) : s'.gfxPixels k = s.gfxPixels k := by
  unfold State.gfxPixels State.gfxMatrixByte State.gfxColourNibble
  rw [h.decodeByte, h.gfxAddress, h.answer, h.displayActive, h.matrix, h.colourNibble]

theorem SameGraphicsInputs.videoCounterAfterGfx (h : SameGraphicsInputs s s' k) :
    s'.videoCounterAfterGfx = s.videoCounterAfterGfx := by
  rw [State.videoCounterAfterGfx, State.videoCounterAfterGfx, h.displayActive, h.videoCounter]

end Inputs

/-- Settles O54: address, pixels, their place and the counter are functions of the listed inputs. -/
theorem graphicsIgnoresBorderAndSprites : Obligations.GraphicsIgnoresBorderAndSprites := by
  intro s s' t k hcycle hcycle' hactive hmatrix hcolour hvc hrc hecm hbmm hmcm hscroll hcb hbg hanswer ht
  have h : SameGraphicsInputs s s' k :=
    { displayActive := hactive, matrix := hmatrix, colourNibble := hcolour, videoCounter := hvc, rowCounter := hrc
      ecm := by rw [State.ecm_eq_flag, State.ecm_eq_flag, hecm]
      bmm := by rw [State.bmm_eq_flag, State.bmm_eq_flag, hbmm]
      mcm := by rw [State.mcm_eq_flag, State.mcm_eq_flag, hmcm]
      xscroll := State.xscroll_congr hscroll
      cb := State.cb_congr hcb
      background := State.background_congr hbg
      answer := hanswer }
  cases (exec_gfx_of_column hcycle).symm.trans ht
  refine ⟨s'.fetchGraphics k, .memRead (s.gfxAddress k) (s.memAnswer (s.gfxAddress k)), s.gfxPixels k,
    exec_gfx_of_column hcycle', s.fetchGraphics_events k, ?_, s.gfxPixels_length k, ?_, ?_, ?_⟩
  · rw [← h.gfxAddress, ← h.answer]
    exact s'.fetchGraphics_events k
  · rw [← s.columnX_eq k]
    exact s.fetchGraphics_gfxLine k
  · rw [← s.columnX_eq k, ← h.columnX, ← h.gfxPixels]
    exact s'.fetchGraphics_gfxLine k
  · rw [State.fetchGraphics_videoCounter, State.fetchGraphics_videoCounter, h.videoCounterAfterGfx]

end Sys2Proof.Machine

/-! PROOFS of the statements of spec/44_sprites.md: the sprite accesses, the sprite triggers, and that the units are
independent of each other (R215 to R221). -/

namespace Sys2Proof.Machine

-- As in the tests: proofs elaborated side by side take more memory than a check of the package has.
set_option Elab.async false

open Sys2Proof.Claims

/-! ### SPTR (R216) -/

theorem execSptr_eq (s : State) (i : Fin 8) : execSptr i s = .next { readMemory s (sptrAddr s i) with
    sprites := s.sprites.set i { s.sprites[i] with dataPointer := s.memAnswer (sptrAddr s i) } } := by
  rw [← State.pointerAddress_eq]
  rfl

theorem sptr_placed (i : Fin 8) :
    PlacedOps (BitVec.ofNat 8 (0x40 + i.val)) (.sptr i) (fun v => [(pointer v i, 0)]) := by
  apply placedOps_of_tables
  · revert i; decide
  · revert i; decide
  · revert i; decide +kernel
  · revert i; decide +kernel

/-- Settles O28: the places by reading through the tables, the effect by the address in the rule's form. -/
theorem spritePointerRead : Obligations.SpritePointerRead := fun i =>
  ⟨sptr_placed i, fun s => execSptr_eq s i⟩

/-! ### SDATA (R217) -/

/-- The three data operations of a sprite under one name. -/
def sdataInstr (i : Fin 8) (j : Fin 3) : Instr :=
  match j with
  | 0 => .sdata0 i
  | 1 => .sdata1 i
  | 2 => .sdata2 i

theorem exec_sdataInstr (i : Fin 8) (j : Fin 3) (s : State) : exec (sdataInstr i j) s = .next (s.spriteData i j) := by
  match j with
  | 0 => exact exec_sdata0 i s
  | 1 => exact exec_sdata1 i s
  | 2 => exact exec_sdata2 i s

theorem sdataInstr_placed (i : Fin 8) (j : Fin 3) :
    PlacedOps (BitVec.ofNat 8 (0x60 + 4 * i.val + j.val)) (sdataInstr i j)
      (fun v => if j = 0 then [(pointer v i, 1)] else [(pointer v i % v.cyclesPerLine + 1, j.val - 1)]) := by
  apply placedOps_of_tables
  · revert i j; decide
  · revert i j; decide
  · revert i j; decide +kernel
  · revert i j; decide +kernel

/-- The running counter goes on by one modulo 64 (R217). -/
theorem SpriteUnit.takeByte_eq (u : SpriteUnit) (j : Fin 3) (v : Byte) : u.takeByte j v =
    { u with fetchedData := u.fetchedData.set j.val v, mc := BitVec.ofNat 6 ((u.mc.toNat + 1) % 64) } := by
  have hmc : u.mc + 1 = BitVec.ofNat 6 ((u.mc.toNat + 1) % 64) := by bv_omega
  rw [SpriteUnit.takeByte, hmc]

theorem State.spriteData_of_dma {s : State} {i : Fin 8} (h : s.sprites[i].dmaEnabled = true) (j : Fin 3) :
    s.spriteData i j = { readMemory s (sdataAddr s.sprites[i]) with
      sprites := s.sprites.set i { s.sprites[i] with
        fetchedData := s.sprites[i].fetchedData.set j.val (s.memAnswer (sdataAddr s.sprites[i]))
        mc := BitVec.ofNat 6 ((s.sprites[i].mc.toNat + 1) % 64) } } := by
  rw [State.spriteData, if_pos h, ← SpriteUnit.dataAddress_eq, ← SpriteUnit.takeByte_eq]
  rfl

theorem State.spriteData_of_idle {s : State} {i : Fin 8} (h : ¬ s.sprites[i].dmaEnabled = true) (j : Fin 3) :
    s.spriteData i j = readMemory s 0x3FFF := by
  rw [State.spriteData, if_neg h]
  rfl

/-- Settles O29: the three operations are one function of the byte's number, taken apart by the DMA. -/
theorem spriteDataReads : Obligations.SpriteDataReads := by
  intro i j op
  have hop : op = sdataInstr i j := rfl
  rw [hop]
  refine ⟨sdataInstr_placed i j, fun s => ?_⟩
  rw [exec_sdataInstr]
  split
  · next hdma => rw [State.spriteData_of_dma hdma]
  · next hidle => rw [State.spriteData_of_idle hidle]

/-! ### The triggers (R218 to R221)

Each trigger is one change of every unit; a unit's change sees the sprite's own bits and its Y comparison. -/

section Triggers

variable (s : State) (i : Fin 8)

theorem State.spriteEnabled_eq_flag : s.spriteEnabled i = flag s 0x15 i := s.reg_bit_eq_flag 0x15 i

theorem State.spriteYExpanded_eq_flag : s.spriteYExpanded i = flag s 0x17 i := s.reg_bit_eq_flag 0x17 i

/-- The Y comparison in numbers: the low 8 bits of the raster line (R219). -/
theorem State.spriteYMatches_eq_yMatch : s.spriteYMatches i = yMatch s i := by
  have hline : (s.cursor.scanline.extractLsb' 0 8).toNat = s.cursor.scanline.toNat % 256 := by
    rw [BitVec.extractLsb'_toNat, Nat.shiftRight_zero]
  have hy : s.spriteY i = s.regs[2 * i.val + 1] := s.reg_eq_getElem _ (by omega)
  rw [State.spriteYMatches, beq_eq_decide, yMatch, ← hline, hy]
  exact decide_eq_decide.mpr BitVec.toNat_inj.symm

end Triggers

/-- Settles O40: each unit's latch by its Y-expansion bit. -/
theorem yExpansionBookkeeping : Obligations.YExpansionBookkeeping := by
  refine ⟨placed_of_tables rfl rfl (by decide +kernel) (by decide +kernel), fun s => ?_⟩
  refine ⟨_, exec_tYexp s, rfl, fun i => ?_⟩
  rw [State.mapSprites_at, SpriteUnit.expand, State.spriteYExpanded_eq_flag]

theorem SpriteUnit.startDma_eq (u : SpriteUnit) (enabled yMatches yExpanded : Bool) :
    u.startDma enabled yMatches yExpanded =
      if enabled = true ∧ yMatches = true ∧ u.dmaEnabled = false then
        { u with
          dmaEnabled := true
          mcBase := 0
          yExpansionLatch := if yExpanded then false else u.yExpansionLatch }
      else u := by
  simp only [SpriteUnit.startDma, Bool.and_eq_true, Bool.not_eq_true', and_assoc]

/-- Settles O41: each unit's start by its enable bit, its Y comparison and its DMA. -/
theorem spriteDmaCheck : Obligations.SpriteDmaCheck := by
  refine ⟨placed_of_tables rfl rfl (by decide +kernel) (by decide +kernel), fun s => ?_⟩
  refine ⟨_, exec_tDmachk s, rfl, fun i => ?_⟩
  rw [State.mapSprites_at, SpriteUnit.startDma_eq, State.spriteEnabled_eq_flag, State.spriteYMatches_eq_yMatch,
    State.spriteYExpanded_eq_flag]

/-- The base goes on by 3 modulo 64 where the latch allows it (R220). -/
theorem SpriteUnit.advancedBase_toNat (u : SpriteUnit) :
    u.advancedBase.toNat = if u.yExpansionLatch then (u.mcBase.toNat + 3) % 64 else u.mcBase.toNat := by
  rw [SpriteUnit.advancedBase]
  split <;> rfl

/-- The advance of a unit with its base as a number (R220). -/
theorem SpriteUnit.advance_eq {u : SpriteUnit} {base : Nat} (hbase : u.advancedBase.toNat = base) (enabled : Bool) :
    u.advance enabled =
      if u.dmaEnabled = false then u
      else { u with mcBase := BitVec.ofNat 6 base, dmaEnabled := decide (base ≠ 63 ∧ enabled = true) } := by
  subst hbase
  have hend : (u.advancedBase == 63) = decide (u.advancedBase.toNat = 63) := by
    rw [beq_eq_decide]
    exact decide_eq_decide.mpr BitVec.toNat_inj.symm
  rw [SpriteUnit.advance, hend, BitVec.ofNat_toNat, BitVec.setWidth_eq]
  cases u.dmaEnabled with
  | false => rfl
  | true => simp

/-- Settles O42: each unit's advance by its latch, its DMA and its enable bit. -/
theorem spriteAdvance : Obligations.SpriteAdvance := by
  refine ⟨placed_of_tables rfl rfl (by decide +kernel) (by decide +kernel), fun s => ?_⟩
  refine ⟨_, exec_tSpradv s, rfl, fun i => ?_⟩
  intro u base
  rw [State.mapSprites_at, SpriteUnit.advance_eq (SpriteUnit.advancedBase_toNat _), State.spriteEnabled_eq_flag]

theorem SpriteUnit.updateDisplay_eq (u : SpriteUnit) (enabled yMatches : Bool) : u.updateDisplay enabled yMatches =
    { u with mc := u.mcBase, displayEnabled := u.dmaEnabled && (u.displayEnabled || (enabled && yMatches)) } := by
  rw [SpriteUnit.updateDisplay, Bool.or_comm]
  cases u.dmaEnabled <;> rfl

/-- Settles O43: each unit's display by its DMA, its enable bit and its Y comparison. -/
theorem spriteDisplayCheck : Obligations.SpriteDisplayCheck := by
  refine ⟨placed_of_tables rfl rfl (by decide +kernel) (by decide +kernel), fun s => ?_⟩
  refine ⟨_, exec_tSprdisp s, rfl, fun i => ?_⟩
  rw [State.mapSprites_at, SpriteUnit.updateDisplay_eq, State.spriteEnabled_eq_flag, State.spriteYMatches_eq_yMatch]

/-! ### The units are independent of each other (R215) -/

section Independence

variable {s t : State} {op : Instr} {i j : Fin 8}

/-- What a sprite trigger leaves of a unit, by the unit, its bits and its Y comparison alone. -/
def triggeredUnit (op : Instr) (u : SpriteUnit) (enabled yMatches yExpanded : Bool) : SpriteUnit :=
  match op with
  | .tYexp => u.expand yExpanded
  | .tDmachk => u.startDma enabled yMatches yExpanded
  | .tSpradv => u.advance enabled
  | .tSprdisp => u.updateDisplay enabled yMatches
  | _ => u

theorem exec_trigger_unit (hop : op ∈ [Instr.tYexp, .tDmachk, .tSpradv, .tSprdisp]) (h : exec op s = .next t)
    (i : Fin 8) : t.sprites[i] =
      triggeredUnit op s.sprites[i] (s.spriteEnabled i) (s.spriteYMatches i) (s.spriteYExpanded i) := by
  simp only [List.mem_cons, List.not_mem_nil, or_false] at hop
  rcases hop with rfl | rfl | rfl | rfl <;> cases h <;> exact State.mapSprites_at _ _ i

theorem State.spriteData_other (hij : i ≠ j) (k : Fin 3) : (s.spriteData j k).sprites[i] = s.sprites[i] := by
  rw [State.spriteData]
  split
  · exact (State.mapSprite_at _ j i _).trans (if_neg hij.symm)
  · rfl

theorem exec_access_other (hij : i ≠ j) (hop : op ∈ [Instr.sptr j, .sdata0 j, .sdata1 j, .sdata2 j])
    (h : exec op s = .next t) : t.sprites[i] = s.sprites[i] := by
  simp only [List.mem_cons, List.not_mem_nil, or_false] at hop
  rcases hop with rfl | rfl | rfl | rfl <;> cases h
  · exact (State.mapSprite_at _ j i _).trans (if_neg hij.symm)
  · exact State.spriteData_other hij 0
  · exact State.spriteData_other hij 1
  · exact State.spriteData_other hij 2

end Independence

/-- Settles O55: what a trigger leaves of a unit is a function of what the two states agree on. -/
theorem spriteUnitsAreIndependent : Obligations.SpriteUnitsAreIndependent := by
  refine ⟨fun op s s' t t' i hop hunit hline henable hexpand hy ht ht' => ?_,
    fun op s t i j hij hop ht => exec_access_other hij hop ht⟩
  have hmatch : s'.spriteYMatches i = s.spriteYMatches i := by
    rw [State.spriteYMatches, State.spriteYMatches, hy, hline]
  rw [exec_trigger_unit hop ht, exec_trigger_unit hop ht', hunit, hmatch, State.spriteEnabled_eq_flag,
    State.spriteEnabled_eq_flag, State.spriteYExpanded_eq_flag, State.spriteYExpanded_eq_flag, henable, hexpand]

end Sys2Proof.Machine

/-! PROOFS of the statements of spec/44_sprites.md, continued: T_DRAW. The model draws by columns where the rules loop
over sprites and pixels (assumption 9); here the loops are run column by column (R230 to R239). -/

namespace Sys2Proof.Machine

-- As in the tests: proofs elaborated side by side take more memory than a check of the package has.
set_option Elab.async false

open Sys2Proof.Claims

/-! ### The interrupt line and the collision latch in the rules' form (R236, R343) -/

section Latch

variable (s : State)

theorem line_eq_any_bit : ∀ f m : BitVec 4,
    decide (f &&& m ≠ 0) = [0, 1, 2, 3].any fun k => f.getLsbD k && m.getLsbD k := by
  decide

theorem State.irqLine_eq_lineOf : s.irqLine = lineOf s.irqFlags s.regs[0x1A] := by
  rw [State.irqLine, line_eq_any_bit, State.irqMask, State.reg_eq_getElem s 0x1A (by decide), lineOf]
  simp [BitVec.getLsbD_extractLsb']

theorem State.raiseIrq_eq_raise (mask : BitVec 4) : s.raiseIrq mask = raise s mask := by
  have hafter : (s.raiseIrq mask).irqLine = lineOf (s.irqFlags ||| mask) s.regs[0x1A] := by
    simp only [State.irqLine_eq_lineOf, State.raiseIrq_irqFlags, State.raiseIrq_regs]
  rw [State.raiseIrq_eq, hafter, State.irqLine_eq_lineOf]
  rfl

/-- One half of the collision latch, statement by statement (R236). -/
theorem State.latchCollision_eq_listing (a : Nat) (ha : a < 47) (flag : BitVec 4) (mask : Byte) :
    s.latchCollision a flag mask =
      if mask ≠ 0 then
        let r := if s.regs[a] = 0 then raise s flag else s
        { r with regs := r.regs.set a (r.regs[a] ||| mask) }
      else s := by
  rw [State.latchCollision, ite_not, State.reg_eq_getElem s a ha, State.raiseIrq_eq_raise]
  split_ifs with hmask hzero
  · rfl
  · exact State.setReg_eq_set _ a _ ha
  · exact State.setReg_eq_set _ a _ ha

theorem State.collisionLatch_eq_listing (ss sb : Byte) : s.collisionLatch ss sb = Claims.collisionLatch s ss sb := by
  rw [State.collisionLatch, State.latchCollision_eq_listing _ 0x1F (by decide),
    State.latchCollision_eq_listing _ 0x1E (by decide)]
  rfl

end Latch

/-! ### What a sprite draws at a column (R231 to R233) -/

section SpritePixels

variable (s : State) (i : Fin 8)

theorem State.spriteX_toNat : (s.spriteX i).toNat = spriteLeft s i := by
  have hhigh : ((s.reg 0x10).getLsbD i).toNat = bit s.regs[0x10] i := by
    rw [State.reg_eq_getElem s 0x10 (by decide), getLsbD_eq_bit]
    have hbit : bit s.regs[0x10] i < 2 := Nat.mod_lt _ (by decide)
    interval_cases bit s.regs[0x10] i <;> rfl
  have hlow : s.reg (2 * i) = s.regs[2 * i.val] := s.reg_eq_getElem _ (by omega)
  rw [State.spriteX, BitVec.toNat_append, BitVec.toNat_ofBool, hhigh, hlow,
    ← Nat.shiftLeft_add_eq_or_of_lt (BitVec.isLt _), Nat.shiftLeft_eq, Nat.mul_comm]
  rfl

theorem State.xFactor_eq_factor : s.xFactor i = factor s i := by
  have hbit : s.spriteXExpanded i = flag s 0x1D i := s.reg_bit_eq_flag 0x1D i
  rw [State.xFactor, hbit, factor]

/-- The 24 bits of a sprite row as a number, the first byte the highest (R232). -/
theorem SpriteUnit.row_toNat (u : SpriteUnit) : u.row.toNat =
    u.fetchedData[0].toNat * 65536 + u.fetchedData[1].toNat * 256 + u.fetchedData[2].toNat := by
  rw [SpriteUnit.row, BitVec.toNat_append, BitVec.toNat_append, ← Nat.shiftLeft_add_eq_or_of_lt (BitVec.isLt _),
    ← Nat.shiftLeft_add_eq_or_of_lt (BitVec.isLt _), Nat.shiftLeft_eq, Nat.shiftLeft_eq]
  omega

/-- The model takes pair codes and bits out of the row, the rule divides the row as a number (R232). -/
theorem State.sourcePixel_eq (p : Nat) : s.sourcePixel i p = Claims.sourcePixel s i p := by
  have hmulti : s.spriteMulticolour i = flag s 0x1C i := s.reg_bit_eq_flag 0x1C i
  have hown : s.spriteColour i = BitVec.ofNat 4 (s.regs[0x27 + i.val].toNat % 16) :=
    s.colourOf_eq_colour ⟨0x27 + i.val, by omega⟩
  have hpair (q : Nat) : s.sprites[i].row.toNat / 2 ^ q % 4 = (s.sprites[i].row.extractLsb' q 2).toNat := by
    rw [BitVec.extractLsb'_toNat, Nat.shiftRight_eq_div_pow]
  have hbit (q : Nat) : s.sprites[i].row.getLsbD q = decide (s.sprites[i].row.toNat / 2 ^ q % 2 = 1) := by
    rw [BitVec.getLsbD, Nat.testBit_eq_decide_div_mod_eq]
  simp only [State.sourcePixel, Claims.sourcePixel, hmulti, hbit, ← SpriteUnit.row_toNat, hpair, ← hown,
    decide_eq_true_eq]
  generalize s.sprites[i].row.extractLsb' (22 - 2 * (p / 2)) 2 = code
  congr 1
  obtain rfl | rfl | rfl | rfl : code = 0 ∨ code = 1 ∨ code = 2 ∨ code = 3 := by revert code; decide
  · rfl
  · exact congrArg some (s.colourOf_eq_colour 0x25)
  · rfl
  · exact congrArg some (s.colourOf_eq_colour 0x26)

/-- What a sprite draws at a column, in the rules' terms (R231, R233). -/
theorem State.spriteAt_eq (x : Nat) : s.spriteAt x i =
    if s.sprites[i].displayEnabled = true ∧ spriteLeft s i ≤ x ∧ x < spriteLeft s i + spriteWidth s i then
      spritePixel s i (x - spriteLeft s i)
    else none := by
  rw [State.spriteAt, State.spriteX_toNat, State.xFactor_eq_factor, State.sourcePixel_eq, spriteWidth, spritePixel]

end SpritePixels

/-! ### The loops of R230, column by column -/

/-- What step 2 of T_DRAW holds of one column (R230). -/
structure Column where
  sprites : Byte
  foreground : Byte
  winner : Option (Fin 8 × Nibble)

/-- A sprite's pixel comes to a column, `fg` its foreground bit; nothing changes when it is transparent (R230). -/
def Column.draw (col : Column) (fg : Bool) (i : Fin 8) : Option Nibble → Column
  | none => col
  | some c =>
    { sprites := col.sprites ||| 1#8 <<< i.val
      foreground := if fg then col.foreground ||| 1#8 <<< i.val else col.foreground
      winner := some (i, c) }

@[simp] theorem Column.draw_none (col : Column) (fg : Bool) (i : Fin 8) : col.draw fg i none = col := rfl

/-- Several sprites come to a column, one after the other; `pixels` says what each of them has there (R230). -/
def Column.drawAll (fg : Bool) (pixels : Fin 8 → Option Nibble) (col : Column) (l : List (Fin 8)) : Column :=
  l.foldl (fun c i => c.draw fg i (pixels i)) col

/-- The buffers of step 2 whose columns are given. -/
def buffersOf (n : Nat) (col : Nat → Column) : Accumulated where
  spriteCollision := (List.range n).map fun x => (col x).sprites
  foregroundCollision := (List.range n).map fun x => (col x).foreground
  winner := (List.range n).map fun x => (col x).winner

section Loops

variable {α : Type} (s : State) (i : Fin 8) (n : Nat) (col : Nat → Column)

theorem map_range_modify (f : Nat → α) (g : α → α) (x : Nat) :
    ((List.range n).map f).modify x g = (List.range n).map fun y => if y = x then g (f y) else f y := by
  apply List.ext_getElem
  · simp
  · intro y _ _
    simp [List.getElem_modify, eq_comm]

theorem map_range_set (f : Nat → α) (v : α) (x : Nat) :
    ((List.range n).map f).set x v = (List.range n).map fun y => if y = x then v else f y := by
  apply List.ext_getElem
  · simp
  · intro y _ _
    simp [List.getElem_set, eq_comm]

theorem buffersOf_congr {n : Nat} {col col' : Nat → Column} (h : ∀ x, x < n → col x = col' x) :
    buffersOf n col = buffersOf n col' := by
  have hmap {β : Type} (f : Column → β) :
      ((List.range n).map fun x => f (col x)) = (List.range n).map fun x => f (col' x) :=
    List.map_congr_left fun x hx => congrArg f (h x (List.mem_range.mp hx))
  rw [buffersOf, buffersOf, hmap Column.sprites, hmap Column.foreground, hmap Column.winner]

theorem cleared_eq : cleared s = buffersOf (rowPixels s.params) fun _ => ⟨0, 0, none⟩ := by
  simp [cleared, buffersOf]

/-- One pixel of a sprite comes to its column, if that is in the row (R230, R231). -/
theorem accumulatePixel_eq (p : Nat) :
    accumulatePixel s i (buffersOf (rowPixels s.params) col) p = buffersOf (rowPixels s.params) fun x =>
      if x = spriteLeft s i + p then (col x).draw (s.gfxFgAt x) i (spritePixel s i p) else col x := by
  rw [accumulatePixel]
  cases spritePixel s i p with
  | none => simp only [Column.draw_none, ite_self]
  | some c =>
    dsimp only
    split
    · simp only [buffersOf, map_range_modify, map_range_set]
      congr 1
      · refine List.map_congr_left fun y _ => ?_
        split <;> rfl
      · split <;> exact List.map_congr_left fun y _ => by split <;> simp_all [Column.draw]
      · refine List.map_congr_left fun y _ => ?_
        split <;> rfl
    · next hx =>
      exact buffersOf_congr fun x hlt => (if_neg (by omega)).symm

/-- The loop over the first `m` pixels of a sprite (R230). -/
theorem foldl_accumulatePixel (m : Nat) :
    (List.range m).foldl (accumulatePixel s i) (buffersOf (rowPixels s.params) col) =
      buffersOf (rowPixels s.params) fun x => (col x).draw (s.gfxFgAt x) i
        (if spriteLeft s i ≤ x ∧ x < spriteLeft s i + m then spritePixel s i (x - spriteLeft s i) else none) := by
  induction m with
  | zero => exact buffersOf_congr fun x _ => by rw [if_neg (by omega), Column.draw_none]
  | succ m ih =>
    rw [List.range_succ, List.foldl_append, ih, List.foldl_cons, List.foldl_nil, accumulatePixel_eq]
    refine buffersOf_congr fun x _ => ?_
    by_cases hx : x = spriteLeft s i + m
    · subst hx
      rw [if_pos rfl, if_neg (by omega), if_pos (by omega), Nat.add_sub_cancel_left, Column.draw_none]
    · have hiff : spriteLeft s i ≤ x ∧ x < spriteLeft s i + m ↔ spriteLeft s i ≤ x ∧ x < spriteLeft s i + (m + 1) := by
        omega
      rw [if_neg hx, if_congr hiff rfl rfl]

/-- Step 2 for one sprite (R230). -/
theorem accumulateSprite_eq :
    accumulateSprite s (buffersOf (rowPixels s.params) col) i =
      buffersOf (rowPixels s.params) fun x => (col x).draw (s.gfxFgAt x) i (s.spriteAt x i) := by
  rw [accumulateSprite]
  split
  · next hshown => simp only [foldl_accumulatePixel, State.spriteAt_eq, hshown, true_and]
  · next hhidden =>
    have hnone (x : Nat) : s.spriteAt x i = none := by rw [State.spriteAt_eq, if_neg fun h => hhidden h.1]
    simp only [hnone, Column.draw_none]

/-- Step 2 for several sprites, one after the other (R230). -/
theorem foldl_accumulateSprite (l : List (Fin 8)) (col : Nat → Column) :
    l.foldl (accumulateSprite s) (buffersOf (rowPixels s.params) col) =
      buffersOf (rowPixels s.params) fun x => (col x).drawAll (s.gfxFgAt x) (s.spriteAt x) l := by
  induction l generalizing col with
  | nil => rfl
  | cons i l ih =>
    rw [List.foldl_cons, accumulateSprite_eq]
    exact ih _

end Loops

/-! ### What the sprites leave in one column (R230, R234) -/

section Columns

variable (fg : Bool) (pixels : Fin 8 → Option Nibble) (l : List (Fin 8)) (col : Column)

/-- The collision mask gains the bit of every sprite with a pixel here. -/
theorem Column.drawAll_sprites : (col.drawAll fg pixels l).sprites =
    l.foldl (fun m i => if (pixels i).isSome then m ||| 1#8 <<< i.val else m) col.sprites := by
  induction l generalizing col with
  | nil => rfl
  | cons i l ih =>
    refine (ih (col.draw fg i (pixels i))).trans ?_
    rw [List.foldl_cons]
    cases pixels i <;> rfl

/-- A sprite's pixel keeps the foreground mask equal to the collision mask on a foreground pixel, and empty off it. -/
theorem Column.draw_foreground {col : Column} (h : col.foreground = if fg then col.sprites else 0) (i : Fin 8)
    (pixel : Option Nibble) :
    (col.draw fg i pixel).foreground = if fg then (col.draw fg i pixel).sprites else 0 := by
  cases pixel with
  | none => exact h
  | some v => cases fg <;> simp_all [Column.draw]

theorem Column.drawAll_foreground {col : Column} (h : col.foreground = if fg then col.sprites else 0) :
    (col.drawAll fg pixels l).foreground = if fg then (col.drawAll fg pixels l).sprites else 0 := by
  induction l generalizing col with
  | nil => exact h
  | cons i l ih => exact ih (Column.draw_foreground fg h i (pixels i))

/-- The winner is the last sprite drawn, which is the first of the reversed list. -/
theorem Column.drawAll_winner : (col.drawAll fg pixels l).winner =
    (l.reverse.findSome? fun i => (pixels i).map fun v => (i, v)).or col.winner := by
  induction l generalizing col with
  | nil => rfl
  | cons i l ih =>
    refine (ih (col.draw fg i (pixels i))).trans ?_
    rw [List.reverse_cons, List.findSome?_append, Option.or_assoc, List.findSome?_singleton]
    cases pixels i <;> rfl

end Columns

section Accumulated

variable (s : State)

/-- The order of the sprites does not matter for a collision mask. -/
theorem State.spriteMaskAt_eq_reversed (x : Nat) : s.spriteMaskAt x =
    spriteNumbers.reverse.foldl (fun m i => if (s.spriteAt x i).isSome then m ||| 1#8 <<< i.val else m) 0 := by
  refine List.Perm.foldl_eq' (List.reverse_perm spriteNumbers).symm (fun i _ j _ m => ?_) 0
  split_ifs <;> ac_rfl

/-- The sprites from 7 down to 0 leave in a column what the model computes for it (R230, R234). -/
theorem drawAll_reversed (x : Nat) :
    Column.drawAll (s.gfxFgAt x) (s.spriteAt x) ⟨0, 0, none⟩ spriteNumbers.reverse =
      ⟨s.spriteMaskAt x, s.foregroundMaskAt x, s.winnerAt x⟩ := by
  have hsprites := Column.drawAll_sprites (s.gfxFgAt x) (s.spriteAt x) spriteNumbers.reverse ⟨0, 0, none⟩
  have hforeground := Column.drawAll_foreground (s.gfxFgAt x) (s.spriteAt x) spriteNumbers.reverse
    (col := ⟨0, 0, none⟩) (ite_self _).symm
  have hwinner := Column.drawAll_winner (s.gfxFgAt x) (s.spriteAt x) spriteNumbers.reverse ⟨0, 0, none⟩
  rw [← State.spriteMaskAt_eq_reversed] at hsprites
  rw [hsprites, ← State.foregroundMaskAt] at hforeground
  rw [List.reverse_reverse, Option.or_none, ← State.winnerAt] at hwinner
  rw [← hsprites, ← hforeground, ← hwinner]

/-- The loops of R230 leave the columns the model computes (assumption 9). -/
theorem accumulated_eq : accumulated s = buffersOf (rowPixels s.params) fun x =>
    ⟨s.spriteMaskAt x, s.foregroundMaskAt x, s.winnerAt x⟩ := by
  rw [accumulated, cleared_eq, foldl_accumulateSprite]
  exact buffersOf_congr fun x _ => drawAll_reversed s x

theorem collisionBuffers_eq : s.collisionBuffers =
    ⟨(accumulated s).spriteCollision, (accumulated s).foregroundCollision⟩ := by
  rw [accumulated_eq]
  rfl

theorem accumulated_winner {x : Nat} (hx : x < rowPixels s.params) :
    (accumulated s).winner.getD x none = s.winnerAt x := by
  rw [accumulated_eq, buffersOf, List.getD_eq_getElem?_getD, List.getElem?_map, List.getElem?_range hx]
  rfl

end Accumulated

/-! ### The third loop and the row (R230, R234, R237, R255, R256) -/

section Row

variable (s : State)

theorem popcount_eq_spriteCount : ∀ m : Byte, popcount m = spriteCount m := by
  decide +kernel

theorem spriteSprite_eq : spriteSprite s = spriteSpriteMask s.collisionBuffers.spriteCollision := by
  simp only [spriteSprite, popcount_eq_spriteCount, collisionBuffers_eq]
  rfl

theorem spriteBackground_eq : spriteBackground s = spriteBackgroundMask s.collisionBuffers.foregroundCollision := by
  rw [collisionBuffers_eq]
  rfl

/-- Where the samples change is written in the model by the first column of a span, in the rule by the last (R255). -/
theorem spanOf_eq_span (x : Nat) : spanOf x = span x := by
  simp only [spanOf, span, Nat.lt_add_one_iff]

theorem Border.shownAt_eq (b : Border) (x : Nat) : b.shownAt x = (b.sampleV[span x] || b.sampleH[span x]) := by
  simp only [Border.shownAt, spanOf_eq_span]

theorem State.outAt_eq_drawn {x : Nat} (hx : x < rowPixels s.params) : s.outAt x = drawn s x := by
  have hbehind (i : Fin 8) : s.spriteBehind i = flag s 0x1B i := s.reg_bit_eq_flag 0x1B i
  have hborder : s.colourOf 0x20 = colour s 0x20 := s.colourOf_eq_colour 0x20
  rw [State.outAt, drawn, Border.shownAt_eq, hborder, State.compositeAt, accumulated_winner s hx]
  cases s.winnerAt x with
  | none => rfl
  | some w => simp only [hbehind]

/-- The framebuffer after T_DRAW: the row of the scan line is drawn, every other row is as it was (R237). -/
theorem State.drawLine_framePixel (y : Nat) {x : Nat} (hx : x < rowPixels s.params) :
    s.drawLine.framePixel y x = if y = s.cursor.scanline.toNat then drawn s x else s.framePixel y x := by
  rw [State.framePixel, State.drawLine_params, State.drawLine_eq]
  dsimp only
  rw [Memory.read_write, ← State.outAt_eq_drawn s hx, State.framePixel, columns]
  split
  · rw [List.getD_eq_getElem?_getD, List.getElem?_map, List.getElem?_range hx]
    rfl
  · rfl

/-- T_DRAW as a listing: the latch runs on the masks of the loops, beside it the buffers and the row (R230). -/
theorem State.drawLine_eq_listing : s.drawLine = { Claims.collisionLatch s (spriteSprite s) (spriteBackground s) with
    collision := ⟨(accumulated s).spriteCollision, (accumulated s).foregroundCollision⟩
    framebuffer := s.drawLine.framebuffer } := by
  rw [← State.collisionLatch_eq_listing, State.collisionLatch_eq, ← collisionBuffers_eq, spriteSprite_eq,
    spriteBackground_eq, State.drawLine_eq]

end Row

/-- Settles O47: the loops column by column, then the latch and the row. -/
theorem drawRunsTheLoops : Obligations.DrawRunsTheLoops :=
  ⟨placed_of_tables rfl rfl (by decide +kernel) (by decide +kernel), fun s =>
    ⟨s.drawLine, exec_tDraw s, s.drawLine_eq_listing, fun y _ hx => s.drawLine_framePixel y hx⟩⟩

/-! ### What T_DRAW latches (R236) -/

section Collisions

variable (s : State)

theorem State.drawLine_regs : s.drawLine.regs =
    (s.regs.set 0x1E (s.regs[0x1E] ||| spriteSprite s)).set 0x1F (s.regs[0x1F] ||| spriteBackground s) := by
  rw [State.drawLine_eq, spriteSprite_eq, spriteBackground_eq, ← State.reg_eq_getElem, ← State.reg_eq_getElem]

/-- The flags T_DRAW raises: those of the registers that go from 0 to non-zero (R236). -/
theorem State.drawLine_raises :
    s.drawLine.irqFlags = s.irqFlags ||| collisionFlags s (spriteSprite s) (spriteBackground s) ∧
    s.drawLine.env.events = (raise s (collisionFlags s (spriteSprite s) (spriteBackground s))).env.events := by
  rw [State.drawLine_eq, spriteSprite_eq, spriteBackground_eq, ← State.raiseIrq_eq_raise]
  exact ⟨State.raiseIrq_irqFlags _ _, rfl⟩

end Collisions

/-- Settles O48: both halves of the latch raise their flags together, so the sink hears of one rise. -/
theorem drawLatchesCollisions : Obligations.DrawLatchesCollisions := by
  intro s
  refine ⟨s.drawLine, exec_tDraw s, s.drawLine_regs, ?_⟩
  intro sprite background
  have hflags : collisionFlags s (spriteSprite s) (spriteBackground s) = sprite ||| background := by
    rw [collisionFlags, State.reg_eq_getElem s 0x1E (by decide), State.reg_eq_getElem s 0x1F (by decide)]
    rfl
  obtain ⟨hirq, hevents⟩ := s.drawLine_raises
  rw [hflags] at hirq hevents
  exact ⟨hirq.trans (BitVec.or_assoc _ _ _).symm, hevents⟩

/-! ### Two sprites on one column (R239) -/

section Overlap

variable {s : State} {i j : Fin 8} {x : Nat}

theorem State.spriteAt_of_pixel {p : Nat} {c : Nibble} (hshown : s.sprites[i].displayEnabled = true)
    (hp : p < spriteWidth s i) (hpixel : spritePixel s i p = some c) (hx : spriteLeft s i + p = x) :
    s.spriteAt x i = some c := by
  rw [State.spriteAt_eq, if_pos ⟨hshown, by omega, by omega⟩, ← hx, Nat.add_sub_cancel_left, hpixel]

/-- A sprite that shares a column of the row with another is in the collision mask of the line (R230). -/
theorem spriteSprite_bit (hij : i ≠ j) (hx : x < rowPixels s.params) (hi : (s.spriteAt x i).isSome = true)
    (hj : (s.spriteAt x j).isSome = true) : (spriteSprite s).getLsbD i = true := by
  have hbit : (s.spriteMaskAt x).getLsbD i = true := (s.spriteMaskAt_bit x i).trans hi
  have hcount : 2 ≤ spriteCount (s.spriteMaskAt x) :=
    (two_le_spriteCount _ i hbit).mpr ⟨j, hij.symm, (s.spriteMaskAt_bit x j).trans hj⟩
  rw [spriteSprite_eq, spriteSpriteMask_bit]
  exact ⟨_, List.mem_map_of_mem (List.mem_range.mpr hx), hcount, hbit⟩

theorem ne_zero_of_getLsbD {w : Nat} {b : BitVec w} {k : Nat} (h : b.getLsbD k = true) : b ≠ 0 := by
  rintro rfl
  simp at h

/-- A flag that is set and let through holds the line (R343). -/
theorem lineOf_of_bit {f : BitVec 4} {m : Byte} {k : Nat} (hk : k < 4) (hf : f.getLsbD k = true)
    (hm : m.getLsbD k = true) : lineOf f m = true := by
  refine List.any_eq_true.mpr ⟨k, ?_, by rw [hf, hm]; rfl⟩
  interval_cases k <;> simp

end Overlap

/-- Settles O49: each sprite is in the mask because of the other; the one event is that of R236. -/
theorem overlapAssertsTheLineOnce : Obligations.OverlapAssertsTheLineOnce := by
  intro s i j p q c e hij hshowi hshowj hp hq hcolumn hrow hpi hqj
  have hi := State.spriteAt_of_pixel hshowi hp hpi rfl
  have hj := State.spriteAt_of_pixel hshowj hq hqj hcolumn.symm
  have hbiti : (spriteSprite s).getLsbD i = true :=
    spriteSprite_bit hij hrow (Option.isSome_of_eq_some hi) (Option.isSome_of_eq_some hj)
  have hbitj : (spriteSprite s).getLsbD j = true :=
    spriteSprite_bit hij.symm hrow (Option.isSome_of_eq_some hj) (Option.isSome_of_eq_some hi)
  obtain ⟨t, ht, hregs, -, hevents⟩ := drawLatchesCollisions s
  have hreg : t.regs[0x1E] = s.regs[0x1E] ||| spriteSprite s := by simp [hregs]
  have hregi : t.regs[0x1E].getLsbD i = true := by rw [hreg, BitVec.getLsbD_or, hbiti, Bool.or_true]
  have hregj : t.regs[0x1E].getLsbD j = true := by rw [hreg, BitVec.getLsbD_or, hbitj, Bool.or_true]
  refine ⟨t, ht, ne_zero_of_getLsbD hregi, hregi, hregj, fun hzero hmask hlow => ?_⟩
  have hm : s.regs[0x1A].getLsbD 2 = true := (getLsbD_eq_bit _ 2).trans hmask
  rw [hevents, if_pos ⟨ne_zero_of_getLsbD hbiti, hzero⟩, raise]
  have hhigh (b : BitVec 4) : lineOf (s.irqFlags ||| (0x4 ||| b)) s.regs[0x1A] = true :=
    lineOf_of_bit (k := 2) (by decide) (by simp) hm
  simp only [hlow, hhigh, Bool.not_false, Bool.and_self, if_true]

end Sys2Proof.Machine

/-! PROOFS of the statements of spec/45_border.md: the two border flip-flops at their checks, and the five samples of
them. -/

namespace Sys2Proof.Machine

-- As in the tests: proofs elaborated side by side take more memory than a check of the package has.
set_option Elab.async false

open Sys2Proof.Claims

/-! ### The control bits the checks read, in the rules' numbers (R22, R24) -/

section BorderBits

variable (s : State)

theorem State.den_eq_flag : s.den = flag s 0x11 4 := s.reg_bit_eq_flag 0x11 4

theorem State.rsel_eq_flag : s.rsel = flag s 0x11 3 := s.reg_bit_eq_flag 0x11 3

theorem State.csel_eq_flag : s.csel = flag s 0x16 3 := s.reg_bit_eq_flag 0x16 3

end BorderBits

/-! ### T_VBORDER (R251) -/

/-- The stop line is asked for first, so it sets the flip-flop whatever the start line has to say (R251). -/
theorem State.verticalAfterCompare_eq (s : State) :
    s.verticalAfterCompare =
      ((s.border.verticalBorderOn &&
          !decide (s.cursor.scanline.toNat = vStart (flag s 0x11 3) ∧ flag s 0x11 4 = true)) ||
        decide (s.cursor.scanline.toNat = vStop (flag s 0x11 3))) := by
  rw [State.verticalAfterCompare, Bool.if_true_left, Bool.if_false_left, Bool.or_comm, Bool.and_comm, s.rsel_eq_flag,
    s.den_eq_flag]

/-- Settles O44: the places by reading through the tables, the effect by the two compares in the rule's numbers. -/
theorem verticalBorder : Obligations.VerticalBorder := by
  refine ⟨placed_of_tables rfl rfl (by decide +kernel) (by decide +kernel), fun s => ?_⟩
  rw [exec_tVborder, execTVborder, s.verticalAfterCompare_eq]
  rfl

/-! ### T_HLEFT and T_HRIGHT (R252, R253) -/

section Horizontal

variable (cs : Bool) (s : State)

/-- The left check in the rule's numbers (R252). -/
theorem exec_tHleft_eq :
    exec (.tHleft cs) s = .next { s with border := { s.border with
      horizontalBorderOn := s.border.horizontalBorderOn && !((flag s 0x16 3 == cs) && flag s 0x11 4) } } := by
  rw [exec_tHleft, execTHleft, Bool.if_false_left, Bool.and_comm, Bool.decide_and, Bool.decide_eq_true, ← beq_eq_decide,
    s.csel_eq_flag, s.den_eq_flag]

/-- The right check in the rule's numbers: `DEN` has no part in it (R253). -/
theorem exec_tHright_eq :
    exec (.tHright cs) s = .next { s with border := { s.border with
      horizontalBorderOn := s.border.horizontalBorderOn || (flag s 0x16 3 == cs) } } := by
  rw [exec_tHright, execTHright, Bool.if_true_left, Bool.or_comm, ← beq_eq_decide, s.csel_eq_flag]

end Horizontal

/-- Settles O45: the places of the four words by reading through the tables, the effects by the two checks. -/
theorem horizontalBorder : Obligations.HorizontalBorder :=
  ⟨placed_of_tables rfl rfl (by decide +kernel) (by decide +kernel),
    placed_of_tables rfl rfl (by decide +kernel) (by decide +kernel),
    placed_of_tables rfl rfl (by decide +kernel) (by decide +kernel),
    placed_of_tables rfl rfl (by decide +kernel) (by decide +kernel),
    fun s cs => ⟨exec_tHleft_eq cs s, exec_tHright_eq cs s⟩⟩

/-! ### T_BSAMPLE (R254) -/

/-- Settles O46, sample by sample: the places by reading through the tables; the effect is the model's one operation
on sample `k`. -/
theorem borderSamples : Obligations.BorderSamples := by
  intro k e he
  match k, he with
  | 0, rfl => exact ⟨placed_of_tables rfl rfl (by decide +kernel) (by decide +kernel), exec_tBsample0⟩
  | 1, rfl => exact ⟨placed_of_tables rfl rfl (by decide +kernel) (by decide +kernel), exec_tBsample1⟩
  | 2, rfl => exact ⟨placed_of_tables rfl rfl (by decide +kernel) (by decide +kernel), exec_tBsample2⟩
  | 3, rfl => exact ⟨placed_of_tables rfl rfl (by decide +kernel) (by decide +kernel), exec_tBsample3⟩
  | 4, rfl => exact ⟨placed_of_tables rfl rfl (by decide +kernel) (by decide +kernel), exec_tBsample4⟩

end Sys2Proof.Machine

/-! PROOFS of the statements of spec/46_register_port.md: the port operations are read off the address first, one table
for `RD` and one for `WR`; the statements of the single registers and of the whole port follow from the two tables. -/

namespace Sys2Proof.Machine

-- As in the tests: proofs elaborated side by side take more memory than a check of the package has.
set_option Elab.async false

open Sys2Proof.Claims

/-! ### The port words of an address (R90, R91) -/

theorem portWords_address (a : BitVec 6) : PortWords a.toNat (readOperation a) (writeOperation a) := by
  have hread : BitVec.ofNat 8 a.toNat = 0#2 ++ a := by
    revert a
    decide
  have hwrite : BitVec.ofNat 8 (0x40 + a.toNat) = 1#2 ++ a := by
    revert a
    decide
  intro v rest
  rw [hread, hwrite]
  exact ⟨decodePort_read a rest, decodePort_write a v rest⟩

/-! ### What an operation does at each address (R319, R320) -/

/-- The bits of an address with storage that read as 1s (R319). -/
def readOnes (a : BitVec 6) : Byte :=
  if a = 0x16 then 0xC0 else if a = 0x18 then 0x01 else if a = 0x1A ∨ 0x20 ≤ a.toNat then 0xF0 else 0

/-- `RD` by address: the raster line, the interrupt flags, the two collision registers and the unused range are read in
their own way, every other address returns its stored byte with its unused bits set (R319). -/
def readAt (a : BitVec 6) (s : State) : Result :=
  if a = 0x11 then execRd11 s
  else if a = 0x12 then execRd12 s
  else if a = 0x19 then execRd19 s
  else if a = 0x1E ∨ a = 0x1F then readAndClear a.toNat s
  else if 0x2F ≤ a.toNat then readUnused s
  else readStored a.toNat (readOnes a) s

/-- `WR` by address: the two interrupt registers have their own writes, the registers the chip writes and the unused
range ignore theirs, every other address stores the byte (R320). -/
def writeAt (a : BitVec 6) (v : Byte) (s : State) : Result :=
  if a = 0x19 then execWr19 v s
  else if a = 0x1A then execWr1A v s
  else if a ∈ [0x13, 0x14, 0x1E, 0x1F] ∨ 0x2F ≤ a.toNat then writeIgnored v s
  else writeStored a.toNat v s

/-- An address from `n` on is none of those below. -/
theorem ne_of_address_lt {a b : BitVec 6} {n : Nat} (h : n ≤ a.toNat) (hb : b.toNat < n) : a ≠ b := by
  rintro rfl
  omega

section Addresses

variable (a : BitVec 6) (s : State)

/-! What the two lists do, entry by entry: the operation at place `k` does what the table says of address `k`. -/

theorem portReads_map_exec :
    portReads.map (exec · s) = (List.range 48).map fun k => readAt (BitVec.ofNat 6 k) s := rfl

theorem portWrites_map_exec (v : Byte) :
    (portWrites.map fun w => w v).map (exec · s) = (List.range 48).map fun k => writeAt (BitVec.ofNat 6 k) v s := rfl

theorem exec_readOperation : exec (readOperation a) s = readAt a s := by
  rcases Nat.lt_or_ge a.toNat 48 with h | h
  · have hentry := congrArg (·[a.toNat]?) (portReads_map_exec s)
    simpa [readOperation_of_lt h, h] using hentry
  · have hne {b : BitVec 6} (hb : b.toNat < 48) : a ≠ b := ne_of_address_lt h hb
    have hunused : 0x2F ≤ a.toNat := by omega
    rw [readOperation_of_ge h, readAt, if_neg (hne (by decide)), if_neg (hne (by decide)), if_neg (hne (by decide)),
      if_neg (not_or.mpr ⟨hne (by decide), hne (by decide)⟩), if_pos hunused]
    rfl

theorem exec_writeOperation (v : Byte) : exec (writeOperation a v) s = writeAt a v s := by
  rcases Nat.lt_or_ge a.toNat 48 with h | h
  · have hentry := congrArg (·[a.toNat]?) (portWrites_map_exec s v)
    rw [List.getElem?_map, writeOperation_of_lt h] at hentry
    simpa [h] using hentry
  · have hunused : 0x2F ≤ a.toNat := by omega
    rw [writeOperation_of_ge h, writeAt, if_neg (ne_of_address_lt h (by decide)),
      if_neg (ne_of_address_lt h (by decide)), if_pos (.inr hunused)]
    rfl

end Addresses

/-! ### The registers that store what is written (R271 to R287, R292 to R295, R298 to R300, R303 to R317) -/

section Stored

variable {a : BitVec 6}

theorem readAt_stored (ha : a.toNat < 47 ∧ a ≠ 0x11 ∧ a ≠ 0x12 ∧ a ≠ 0x19 ∧ ¬ (a = 0x1E ∨ a = 0x1F)) (s : State) :
    readAt a s = readStored a.toNat (readOnes a) s := by
  obtain ⟨hlt, h11, h12, h19, hcollision⟩ := ha
  rw [readAt, if_neg h11, if_neg h12, if_neg h19, if_neg hcollision, if_neg (Nat.not_le.mpr hlt)]

theorem writeAt_stored (ha : a.toNat < 47 ∧ a ≠ 0x19 ∧ a ≠ 0x1A ∧ a ∉ [0x13, 0x14, 0x1E, 0x1F]) (v : Byte)
    (s : State) : writeAt a v s = writeStored a.toNat v s := by
  obtain ⟨hlt, h19, h1A, hmem⟩ := ha
  rw [writeAt, if_neg h19, if_neg h1A, if_neg (not_or.mpr ⟨hmem, Nat.not_le.mpr hlt⟩)]

/-- Bits that read as 1s need not be masked out of the stored byte. -/
theorem masked_or_ones (b ones : Byte) : (b &&& ~~~ones) ||| ones = b ||| ones := by
  ext k
  simp only [BitVec.getElem_or, BitVec.getElem_and, BitVec.getElem_not]
  cases ones[k] <;> simp

variable {rd wr : Instr} {s : State}

theorem returns_of_readStored {n : Fin 47} {ones : Byte} (h : exec rd s = readStored n ones s) :
    Returns rd s ((s.regs[n] &&& ~~~ones) ||| ones) := by
  rw [Returns, h, masked_or_ones, readStored, s.reg_eq_getElem n n.isLt]
  rfl

theorem stores_of_writeStored {n : Fin 47} {v : Byte} (h : exec wr s = writeStored n v s) : Stores wr s n v := by
  rw [Stores, h, writeStored, State.setReg_eq_set s n v n.isLt]

/-- Every address with storage is a stored register, but for the raster line, the light pen, the interrupt and the
collision registers. -/
theorem storedRegister (a : BitVec 6)
    (ha : a.toNat < 47 ∧ a ∉ [0x11, 0x12, 0x13, 0x14, 0x19, 0x1A, 0x1E, 0x1F]) :
    StoredRegister ⟨a.toNat, ha.1⟩ (readOperation a) (writeOperation a) (~~~readOnes a) (readOnes a) := by
  obtain ⟨hlt, hmem⟩ := ha
  have hread : a ≠ 0x11 ∧ a ≠ 0x12 ∧ a ≠ 0x19 ∧ ¬ (a = 0x1E ∨ a = 0x1F) := by
    simp_all
  have hwrite : a ≠ 0x19 ∧ a ≠ 0x1A ∧ a ∉ [0x13, 0x14, 0x1E, 0x1F] := by
    simp_all
  have hreturns (s : State) :
      Returns (readOperation a) s ((s.regs[a.toNat] &&& ~~~readOnes a) ||| readOnes a) :=
    returns_of_readStored (n := ⟨a.toNat, hlt⟩) ((exec_readOperation a s).trans (readAt_stored ⟨hlt, hread⟩ s))
  have hstores (s : State) (v : Byte) : Stores (writeOperation a v) s ⟨a.toNat, hlt⟩ v :=
    stores_of_writeStored ((exec_writeOperation a s v).trans (writeAt_stored ⟨hlt, hwrite⟩ v s))
  refine ⟨portWords_address a, fun s v => ⟨hreturns s, hstores s v, fun t ht => ?_⟩⟩
  have hkept : t.regs[a.toNat] = v := by
    cases (hstores s v).symm.trans ht
    exact Vector.getElem_set_self hlt
  rw [← hkept]
  exact hreturns t

end Stored

/-- Settles O15: nine stored registers, and the coordinate they form. -/
theorem spriteXPort : Obligations.SpriteXPort :=
  ⟨storedRegister 0x00 (by decide), storedRegister 0x02 (by decide), storedRegister 0x04 (by decide),
    storedRegister 0x06 (by decide), storedRegister 0x08 (by decide), storedRegister 0x0A (by decide),
    storedRegister 0x0C (by decide), storedRegister 0x0E (by decide), storedRegister 0x10 (by decide),
    State.spriteX_toNat⟩

/-- Settles O16: eight stored registers, and the comparison their bytes are used in. -/
theorem spriteYPort : Obligations.SpriteYPort :=
  ⟨storedRegister 0x01 (by decide), storedRegister 0x03 (by decide), storedRegister 0x05 (by decide),
    storedRegister 0x07 (by decide), storedRegister 0x09 (by decide), storedRegister 0x0B (by decide),
    storedRegister 0x0D (by decide), storedRegister 0x0F (by decide), State.spriteYMatches_eq_yMatch⟩

/-- Settles O18: seven stored registers with their unused bits; each field is a bit or a quotient of its register. -/
theorem modeAndSpriteBitsPort : Obligations.ModeAndSpriteBitsPort :=
  ⟨storedRegister 0x15 (by decide), storedRegister 0x16 (by decide), storedRegister 0x17 (by decide),
    storedRegister 0x18 (by decide), storedRegister 0x1B (by decide), storedRegister 0x1C (by decide),
    storedRegister 0x1D (by decide), fun s i =>
      ⟨s.mcm_eq_flag, s.csel_eq_flag, s.xscroll_toNat, s.vm_toNat, s.reg_field_toNat 0x18 1 3,
        s.spriteEnabled_eq_flag i, s.spriteYExpanded_eq_flag i, s.reg_bit_eq_flag 0x1B i, s.reg_bit_eq_flag 0x1C i, s.reg_bit_eq_flag 0x1D i⟩⟩

/-- Settles O23: seven stored registers with unused bits 7:4. -/
theorem sharedColoursPort : Obligations.SharedColoursPort :=
  ⟨storedRegister 0x20 (by decide), storedRegister 0x21 (by decide), storedRegister 0x22 (by decide),
    storedRegister 0x23 (by decide), storedRegister 0x24 (by decide), storedRegister 0x25 (by decide),
    storedRegister 0x26 (by decide)⟩

/-- Settles O24: eight stored registers with unused bits 7:4. -/
theorem spriteColoursPort : Obligations.SpriteColoursPort :=
  ⟨storedRegister 0x27 (by decide), storedRegister 0x28 (by decide), storedRegister 0x29 (by decide),
    storedRegister 0x2A (by decide), storedRegister 0x2B (by decide), storedRegister 0x2C (by decide),
    storedRegister 0x2D (by decide), storedRegister 0x2E (by decide)⟩

/-! ### CR1 and RASTER (R288, R289) -/

section Raster

/-- Bit 8 of a raster line is its quotient by 256. -/
theorem lineBit8_toNat (line : BitVec 9) : (line.getLsbD 8).toNat = line.toNat / 256 := by
  have hline := line.isLt
  rw [BitVec.getLsbD, Nat.toNat_testBit]
  omega

theorem bit_append_low7 (high : Bool) (b : Byte) :
    BitVec.ofBool high ++ b.extractLsb' 0 7 = BitVec.ofNat 8 (high.toNat <<< 7) ||| (b &&& 0x7F) := by
  have hlow : (b.extractLsb' 0 7).toNat = (b &&& 0x7F).toNat := by
    rw [BitVec.extractLsb'_toNat, Nat.shiftRight_zero, BitVec.toNat_and]
    exact (Nat.and_two_pow_sub_one_eq_mod b.toNat 7).symm
  rw [append_eq_ofNat, BitVec.toNat_ofBool, hlow, BitVec.ofNat_or, BitVec.ofNat_toNat, BitVec.setWidth_eq]

variable (s : State)

theorem returns_controlOne : Returns .rd11 s
    (BitVec.ofNat 8 ((s.cursor.scanline.toNat / 256) <<< 7) ||| (s.regs[0x11] &&& 0x7F)) := by
  rw [Returns, exec_rd11, execRd11, bit_append_low7, lineBit8_toNat, s.reg_eq_getElem 0x11 (by decide)]
  rfl

theorem returns_raster : Returns .rd12 s (BitVec.ofNat 8 (s.cursor.scanline.toNat % 256)) := by
  have hlow : s.cursor.scanline.extractLsb' 0 8 = BitVec.ofNat 8 (s.cursor.scanline.toNat % 256) := by
    rw [BitVec.extractLsb', Nat.shiftRight_zero]
    bv_omega
  rw [Returns, exec_rd12, execRd12, hlow]
  rfl

/-- The compare value in the rule's numbers: bit 7 of CR1 above the eight bits of RASTER (R23). -/
theorem State.rasterCompare_toNat : s.rasterCompare.toNat = 256 * bit s.regs[0x11] 7 + s.regs[0x12].toNat := by
  have hhigh : ((s.reg 0x11).extractLsb' 7 1).toNat = bit s.regs[0x11] 7 := s.reg_field_toNat 0x11 7 1
  rw [State.rasterCompare, BitVec.toNat_append, hhigh, s.reg_eq_getElem 0x12 (by decide),
    ← Nat.shiftLeft_add_eq_or_of_lt (BitVec.isLt _), Nat.shiftLeft_eq, Nat.mul_comm]

end Raster

/-- Settles O17: the reads by the raster line, the writes as plain stores. -/
theorem rasterPort : Obligations.RasterPort :=
  ⟨portWords_address 0x11, portWords_address 0x12, fun s _ =>
    ⟨returns_controlOne s, stores_of_writeStored (n := 0x11) rfl, returns_raster s,
      stores_of_writeStored (n := 0x12) rfl, s.rasterCompare_toNat⟩⟩

/-! ### The unused range (R318) -/

/-- Settles O19: the addresses from 0x30 on share one row, `11 : low`. -/
theorem unusedPort : Obligations.UnusedPort := by
  refine ⟨portWords_address 0x2F, fun low => ?_, fun s low v => ⟨rfl, rfl, rfl, rfl⟩⟩
  have haddress : (0b11#2 ++ low).toNat = 0x30 + low.toNat := by
    revert low
    decide
  have hwords := portWords_address (0b11#2 ++ low)
  rwa [haddress, readOperation_unusedAddress, funext (writeOperation_unusedAddress low)] at hwords

/-! ### The interrupt registers (R296, R297) -/

section Interrupt

theorem lineByte_eq : ∀ (line : Bool) (flags : BitVec 4),
    BitVec.ofBool line ++ 0b111#3 ++ flags = BitVec.ofNat 8 ((if line then 0x80 else 0) + 0x70 + flags.toNat) := by
  decide

variable (s : State)

theorem State.flagRegister_eq : s.flagRegister =
    BitVec.ofNat 8 ((if lineOf s.irqFlags s.regs[0x1A] then 0x80 else 0) + 0x70 + s.irqFlags.toNat) := by
  rw [State.flagRegister, lineByte_eq, State.irqLine_eq_lineOf]

theorem returns_interruptFlags : Returns .rd19 s
    (BitVec.ofNat 8 ((if lineOf s.irqFlags s.regs[0x1A] then 0x80 else 0) + 0x70 + s.irqFlags.toNat)) := by
  rw [Returns, exec_rd19, execRd19, State.flagRegister_eq]
  rfl

/-- The report in one piece: one event when the level is not the one last told (R343). -/
theorem State.reportIrq_eq (was : Bool) : State.reportIrq was s = { s with env := { s.env with
    events := if s.irqLine = was then s.env.events
      else (s.cursor.globalCycleCounter, .setIrqLine s.irqLine) :: s.env.events } } := by
  rw [State.reportIrq]
  by_cases h : s.irqLine = was
  · rw [if_pos h, if_pos h]
  · rw [if_neg h, if_neg h]
    rfl

end Interrupt

/-- Settles O20: a flag stays exactly when its bit of the written byte is 0; the sink is told as by any
acknowledgement. -/
theorem interruptFlagPort : Obligations.InterruptFlagPort := by
  refine ⟨portWords_address 0x19, fun s v =>
    ⟨returns_interruptFlags, s.acknowledgeIrq (v.extractLsb' 0 4), rfl, ?_, ?_⟩⟩
  · intro k
    simp
  · have hafter := (s.acknowledgeIrq (v.extractLsb' 0 4)).irqLine_eq_lineOf
    have heq := s.acknowledgeIrq_eq (v.extractLsb' 0 4)
    simp only [hafter, s.irqLine_eq_lineOf, State.acknowledgeIrq_irqFlags, State.acknowledgeIrq_regs] at heq ⊢
    exact heq

/-- Settles O21: the store, then the report of the line it leaves. -/
theorem interruptMaskPort : Obligations.InterruptMaskPort := by
  refine ⟨portWords_address 0x1A, fun s v => ⟨returns_of_readStored (n := 0x1A) (ones := 0xF0) rfl, ?_⟩⟩
  have hline : (s.setReg 0x1A v).irqLine = lineOf s.irqFlags v := by
    rw [State.irqLine_eq_lineOf, ← State.reg_eq_getElem _ 0x1A (by decide), State.reg_setReg_same _ _ _ (by decide)]
    rfl
  rw [exec_wr1A, execWr1A, State.reportIrq_eq, hline, s.irqLine_eq_lineOf, State.setReg_eq_set s 0x1A v (by decide)]

/-! ### Every read by the table of masks (R319) -/

section MaskTable

variable (s : State) {a : BitVec 6}

/-- The table's byte of an address that is read from storage: the stored byte with the address's unused bits set. -/
theorem readByte_stored (ha : a.toNat < 47 ∧ a ≠ 0x11 ∧ a ≠ 0x12 ∧ a ≠ 0x19) :
    readByte s a = s.reg a.toNat ||| readOnes a := by
  obtain ⟨hlt, h11, h12, h19⟩ := ha
  by_cases hmasked : a = 0x16 ∨ a = 0x18 ∨ a = 0x1A
  · rcases hmasked with rfl | rfl | rfl <;>
      · rw [← masked_or_ones, ← s.regs_getD]
        rfl
  obtain ⟨h16, h18, h1A⟩ : a ≠ 0x16 ∧ a ≠ 0x18 ∧ a ≠ 0x1A := by simpa only [not_or] using hmasked
  rcases Nat.lt_or_ge a.toNat 0x20 with h | h
  · have hones : readOnes a = 0#8 := by
      rw [readOnes, if_neg h16, if_neg h18, if_neg (not_or.mpr ⟨h1A, Nat.not_le.mpr h⟩)]
      rfl
    have hle : a.toNat ≤ 0x1F := Nat.le_of_lt_succ h
    rw [hones, BitVec.or_zero, readByte, s.regs_getD]
    simp only [if_neg h11, if_neg h12, if_neg h16, if_neg h18, if_neg h19, if_neg h1A, if_pos hle, ite_self]
  · have hones : readOnes a = 0xF0 := by
      rw [readOnes, if_neg h16, if_neg h18, if_pos (.inr h)]
    have hle : a.toNat ≤ 0x2E := Nat.le_of_lt_succ hlt
    have h17 : a ≠ 0x17 := ne_of_address_lt h (by decide)
    have hgt (n : Nat) (hn : n ≤ 0x1F) : ¬ a.toNat ≤ n := by omega
    rw [hones, ← masked_or_ones, readByte, s.regs_getD, if_neg (hgt _ (by decide)), if_neg h11, if_neg h12,
      if_neg (hgt _ (by decide)), if_neg h16, if_neg h17, if_neg h18, if_neg h19, if_neg h1A,
      if_neg (hgt _ (by decide)), if_pos hle]
    rfl

theorem readByte_unused (h : 0x2F ≤ a.toNat) : readByte s a = 0xFF := by
  have hne (b : BitVec 6) (hb : b.toNat < 0x2F) : a ≠ b := ne_of_address_lt h hb
  have hgt (n : Nat) (hn : n ≤ 0x2E) : ¬ a.toNat ≤ n := by omega
  simp [readByte, hne, hgt]

theorem readByte_controlOne : readByte s 0x11 =
    BitVec.ofNat 8 ((s.cursor.scanline.toNat / 256) <<< 7) ||| (s.regs[0x11] &&& 0x7F) := by
  rw [Nat.shiftLeft_eq, ← s.reg_eq_getElem 0x11 (by decide), ← s.regs_getD]
  rfl

theorem readByte_chipWritten (ha : a ∈ [0x13, 0x14, 0x1E, 0x1F]) : readByte s a = s.reg a.toNat := by
  simp only [List.mem_cons, List.not_mem_nil, or_false] at ha
  rcases ha with rfl | rfl | rfl | rfl <;> exact s.regs_getD _

/-- A read that clears nothing returns the table's byte. -/
theorem returns_readByte (h : ¬ (a = 0x1E ∨ a = 0x1F)) : Returns (readOperation a) s (readByte s a) := by
  by_cases h11 : a = 0x11
  · subst h11
    rw [readByte_controlOne]
    exact returns_controlOne s
  by_cases h12 : a = 0x12
  · subst h12
    exact returns_raster s
  by_cases h19 : a = 0x19
  · subst h19
    exact returns_interruptFlags s
  rw [Returns, exec_readOperation]
  rcases Nat.lt_or_ge a.toNat 47 with hlt | hge
  · rw [readAt_stored ⟨hlt, h11, h12, h19, h⟩, readByte_stored s ⟨hlt, h11, h12, h19⟩]
    rfl
  · rw [readAt, if_neg h11, if_neg h12, if_neg h19, if_neg h, if_pos hge, readByte_unused s hge]
    rfl

/-- A read of a collision register returns the table's byte and clears the register (R301, R302). -/
theorem exec_readOperation_collision (h : a = 0x1E ∨ a = 0x1F) :
    exec (readOperation a) s = .next { s with
      regs := s.regs.setIfInBounds a.toNat 0
      env := { s.env with portOut := some (readByte s a) } } := by
  rw [exec_readOperation, readByte_chipWritten s (by rcases h with rfl | rfl <;> decide)]
  rcases h with rfl | rfl <;> rfl

end MaskTable

/-- Settles O25: the two collision registers are cleared, every other read returns its byte. -/
theorem readsByTheMaskTable : Obligations.ReadsByTheMaskTable := by
  intro s a
  by_cases h : a = 0x1E ∨ a = 0x1F
  · rw [if_pos h]
    exact exec_readOperation_collision s h
  · rw [if_neg h]
    exact returns_readByte s h

/-! ### The registers only the chip writes (R290, R291, R301, R302) -/

section ChipWritten

/-- A write the rules ignore, by its address. -/
theorem ignored_write {a : BitVec 6} (ha : a ∈ [0x13, 0x14, 0x1E, 0x1F]) (v : Byte) (s : State) :
    Ignored (writeOperation a v) s := by
  have h19 : a ≠ 0x19 := ne_of_mem_of_not_mem ha (by decide)
  have h1A : a ≠ 0x1A := ne_of_mem_of_not_mem ha (by decide)
  rw [Ignored, exec_writeOperation, writeAt, if_neg h19, if_neg h1A, if_pos (.inl ha)]
  rfl

/-- A light-pen latch is read as it stands. -/
theorem readOnlyRegister (a : BitVec 6) (ha : a.toNat < 47 ∧ (a = 0x13 ∨ a = 0x14)) :
    ReadOnlyRegister ⟨a.toNat, ha.1⟩ (readOperation a) (writeOperation a) := by
  obtain ⟨hlt, ha⟩ := ha
  have hmem : a ∈ [0x13, 0x14, 0x1E, 0x1F] := by
    rcases ha with rfl | rfl <;> decide
  refine ⟨portWords_address a, fun s v => ⟨?_, ignored_write hmem v s⟩⟩
  have hreturns := returns_readByte s (a := a) (by rcases ha with rfl | rfl <;> decide)
  rwa [readByte_chipWritten s hmem, s.reg_eq_getElem a.toNat hlt] at hreturns

theorem clearedByRead (a : BitVec 6) (ha : a.toNat < 47 ∧ (a = 0x1E ∨ a = 0x1F)) :
    ClearedByRead ⟨a.toNat, ha.1⟩ (readOperation a) (writeOperation a) := by
  obtain ⟨hlt, ha⟩ := ha
  have hmem : a ∈ [0x13, 0x14, 0x1E, 0x1F] := by
    rcases ha with rfl | rfl <;> decide
  refine ⟨portWords_address a, fun s v => ⟨?_, ignored_write hmem v s⟩⟩
  have hclear : s.regs.setIfInBounds a.toNat 0 = s.regs.set a.toNat 0 hlt :=
    congrArg State.regs (State.setReg_eq_set s a.toNat 0 hlt)
  rw [exec_readOperation_collision s ha, readByte_chipWritten s hmem, s.reg_eq_getElem a.toNat hlt, hclear]
  rfl

end ChipWritten

/-- Settles O22: the other reads return their byte of the table of masks. -/
theorem chipWrittenPort : Obligations.ChipWrittenPort :=
  ⟨readOnlyRegister 0x13 (by decide), readOnlyRegister 0x14 (by decide), clearedByRead 0x1E (by decide),
    clearedByRead 0x1F (by decide), fun s a h1E h1F => ⟨readByte s a, returns_readByte s (not_or.mpr ⟨h1E, h1F⟩)⟩⟩

/-! ### What a port operation may touch (R322) -/

section Frame

variable {i : Instr} {s t : State}

/-- The part of the claim that a port operation makes, said of the state it leaves: what it may touch of the bank, the
flags, the byte returned and the trace. -/
structure PortTouches (i : Instr) (s t : State) : Prop where
  frame : t = { s with
    regs := t.regs
    irqFlags := t.irqFlags
    env := { s.env with portOut := t.env.portOut, events := t.env.events } }
  flags : t.irqFlags ≠ s.irqFlags → ∃ v, i = .wr19 v
  events : t.env.events ≠ s.env.events → ((∃ v, i = .wr19 v) ∨ ∃ v, i = .wr1A v) ∧
    ∃ level, t.env.events = (s.cursor.globalCycleCounter, .setIrqLine level) :: s.env.events

/-- An operation that leaves the flags and the trace alone. -/
theorem PortTouches.of_quiet (hframe : t = { s with regs := t.regs, env := { s.env with portOut := t.env.portOut } }) :
    PortTouches i s t := by
  rw [hframe]
  exact ⟨rfl, fun hne => absurd rfl hne, fun hne => absurd rfl hne⟩

theorem exec_port_touches (hk : i.kind = .port) (s : State) : ∃ t, exec i s = .next t ∧ PortTouches i s t := by
  obtain ⟨b, he⟩ | ⟨a, -, he⟩ | ⟨a, v, -, -, he⟩ | he | ⟨v, hi, he⟩ | ⟨v, hi, he⟩ := exec_port i s hk <;>
    refine ⟨_, he, ?_⟩
  · exact .of_quiet rfl
  · exact .of_quiet rfl
  · exact .of_quiet rfl
  · exact .of_quiet rfl
  · rw [State.acknowledgeIrq, State.reportIrq_eq]
    exact ⟨rfl, fun _ => ⟨v, hi⟩, fun hne => ⟨.inl ⟨v, hi⟩, _, if_neg fun hsame => hne (if_pos hsame)⟩⟩
  · rw [State.reportIrq_eq]
    exact ⟨rfl, fun hne => absurd rfl hne,
      fun hne => ⟨.inr ⟨v, hi⟩, _, if_neg fun hsame => hne (if_pos hsame)⟩⟩

/-- A read that changes the bank is one of the two that clear a collision register. -/
theorem collisionRead_of_regs_ne {a : BitVec 6} (h : exec (readOperation a) s = .next t) (hne : t.regs ≠ s.regs) :
    readOperation a = .rd1E ∨ readOperation a = .rd1F := by
  by_cases ha : a = 0x1E ∨ a = 0x1F
  · exact ha.imp (congrArg readOperation) (congrArg readOperation)
  · cases (returns_readByte s ha).symm.trans h
    exact absurd rfl hne

end Frame

/-- Settles O26, by the forms a port instruction can take; which reads change the bank is read off the table of
masks. -/
theorem portOperationsTouchOnlyTheBank : Obligations.PortOperationsTouchOnlyTheBank := by
  intro i s hk
  obtain ⟨t, he, hframe, hflags, hevents⟩ := exec_port_touches hk s
  refine ⟨t, he, hframe, hflags, hevents, fun a ha hne => ?_⟩
  subst ha
  exact collisionRead_of_regs_ne he hne

end Sys2Proof.Machine

/-! PROOFS of the statements of spec/60_exceptions.md: no step from a good state stops, the raster interrupt, the
light-pen sample, and the interrupt line within a `STEP` (R340, R343, R345, R352). -/

namespace Sys2Proof.Machine

-- As in the tests: proofs elaborated side by side take more memory than a check of the package has.
set_option Elab.async false

open Sys2Proof.Claims

/-! ### From a good state no step stops (R120, R340) -/

section Progress

variable {s : State} {w : Work} {rest : List Work}

/-- An item of a step in progress belongs in the current cycle, or is the cursor advance. -/
theorem State.AgendaGood.head_within (h : s.AgendaGood) (ha : s.agenda = w :: rest) :
    w.Within s.cursor.cycleInLine ∨ w = .advance := by
  obtain hnil | ⟨d, hd, hsuffix⟩ := h
  · cases ha.symm.trans hnil
  · obtain ⟨front, hitems, hwithin⟩ := CycleWords.items_within hd
    have hmem : w ∈ front ++ [.advance] := hitems ▸ hsuffix.subset (ha ▸ List.mem_cons_self)
    exact (List.mem_append.mp hmem).imp (hwithin w) List.mem_singleton.mp

/-- An item of the step in progress runs: the tables place it in a cycle that gives it the column it needs (R95). -/
theorem State.Good.item_runs (h : s.Good) (ha : s.agenda = w :: rest) :
    Result.Runs (performWork w (s.withAgenda rest)) := by
  obtain hwithin | rfl := h.agenda.head_within ha
  · obtain ⟨t, ht, -⟩ := performWork_within (s := s.withAgenda rest) hwithin
    exact ⟨t, ht⟩
  · exact ⟨_, rfl⟩

/-- A `STEP` begins in every cycle of the table (R12, R120). -/
theorem State.Good.beginCycle_runs (h : s.Good) : Result.Runs s.beginCycle := by
  obtain ⟨d, hd⟩ := exists_cycleWords h.cycleLow h.cycleHigh
  refine ⟨s.lightPenSample.withAgenda d.items, ?_⟩
  unfold State.beginCycle
  rw [hd]
  rfl

/-- A byte with bit 7 clear is a port word: its two upper bits are the direction (R90). -/
theorem exists_decodePort {w : Byte} (hw : w.getLsbD 7 = false) (v : Byte) :
    ∃ i rest, decodePort [w, v] = .ok (i, rest) ∧ i.kind = .port := by
  obtain ⟨dir, a, rfl⟩ : ∃ (dir : BitVec 2) (a : BitVec 6), w = dir ++ a :=
    ⟨w.extractLsb' 6 2, w.extractLsb' 0 6, (BitVec.extractLsb'_append_extractLsb' (w := 2) (len := 6)).symm⟩
  rw [portWord_getLsbD_seven] at hw
  obtain hset | rfl | rfl := portDirection_cases dir
  · cases hset.symm.trans hw
  · exact ⟨_, _, decodePort_read a [v], readOperation_kind a⟩
  · exact ⟨_, _, decodePort_write a v [], writeOperation_kind a v⟩

theorem performPort_runs {w : Byte} (hw : w.getLsbD 7 = false) (v : Byte) (s : State) :
    Result.Runs (performPort w v s) := by
  obtain ⟨i, l, hi, hk⟩ := exists_decodePort hw v
  obtain ⟨t, ht, -⟩ := exec_port_touches hk s
  exact ⟨t, (performPort_of_decode hi s).trans ht⟩

/-- An operation of another agent runs, a port word having 7 bits (R2, R90). -/
theorem State.Good.request_runs (h : s.Good) {r : Request} (hr : r.valid = true) :
    Result.Runs (performRequest r s) := by
  cases r with
  | tick => exact h.beginCycle_runs
  | port w v => exact performPort_runs (by simpa [Request.valid] using hr) v s
  | reset | pen | memory | colour => exact ⟨_, rfl⟩

end Progress

/-- Settles O57, by where the step finds what to run: the items in progress, the requests that wait, the scheduler. -/
theorem goodStatesNeverStop : Obligations.GoodStatesNeverStop := by
  intro s h
  cases ha : s.agenda with
  | cons w rest =>
    rw [step_of_agenda ha]
    exact h.item_runs ha
  | nil =>
    cases hr : s.env.requests with
    | cons r rs =>
      rw [step_of_requests ha hr]
      exact (h.nextRequest hr).request_runs (h.requests r (hr ▸ List.mem_cons_self))
    | nil =>
      have hstep : step s = s.beginCycle := by
        unfold step stepOnce
        rw [ha, hr]
      exact hstep ▸ h.beginCycle_runs

/-! ### The raster interrupt (R345) -/

/-- Settles O35: the places by reading through the tables; the compare value and the raised flag in numbers. -/
theorem rasterInterrupt : Obligations.RasterInterrupt := by
  refine ⟨placed_of_tables rfl rfl (by decide +kernel) (by decide +kernel), fun s => ?_⟩
  have hmatch : s.cursor.scanline = s.rasterCompare ↔
      s.cursor.scanline.toNat = 256 * bit s.regs[0x11] 7 + s.regs[0x12].toNat := by
    rw [← s.rasterCompare_toNat, BitVec.toNat_inj]
  rw [exec_tRaster, execTRaster, State.raiseIrq_eq_raise]
  exact congrArg _ (if_congr hmatch rfl rfl)

/-! ### The light-pen sample (R352) -/

/-- The trigger in the rule's form: X and then Y are asked for and latched, and the flag is set (R352). -/
theorem State.lightPenTrigger_eq (s : State) :
    s.lightPenTrigger = { raise { s with
        regs := (s.regs.set 0x13 (BitVec.ofInt 8 (s.env.penX / 2))).set 0x14 (BitVec.ofInt 8 s.env.penY)
        env := { s.env with
          events := (s.cursor.globalCycleCounter, .lpY s.env.penY) ::
            (s.cursor.globalCycleCounter, .lpX s.env.penX) :: s.env.events } } 0x8 with
      pen := ⟨s.pen.lpPrev, true⟩ } := by
  unfold State.lightPenTrigger
  dsimp only
  rw [State.setReg_eq_set _ 0x13 _ (by decide), State.setReg_eq_set _ 0x14 _ (by decide), State.raiseIrq_eq_raise]
  rfl

/-- The sample without a first rising edge: the button is asked for and its level kept (R352). -/
theorem State.lightPenSample_of_noEdge {s : State}
    (h : (s.env.penButton && !s.pen.lpPrev && !s.pen.lpTriggeredThisFrame) = false) :
    s.lightPenSample =
      { s.emit (.lpButton s.env.penButton) with pen := ⟨s.env.penButton, s.pen.lpTriggeredThisFrame⟩ } := by
  unfold State.lightPenSample
  dsimp only
  rw [h]
  rfl

/-- The sample at the first rising edge of a frame: the button is asked for, and the trigger runs (R352). -/
theorem State.lightPenSample_of_edge {s : State}
    (h : (s.env.penButton && !s.pen.lpPrev && !s.pen.lpTriggeredThisFrame) = true) :
    s.lightPenSample =
      { (s.emit (.lpButton s.env.penButton)).lightPenTrigger with pen := ⟨s.env.penButton, true⟩ } := by
  unfold State.lightPenSample
  dsimp only
  rw [h]
  rfl

/-- The items of a cycle, in the rule's form of their order (R121). -/
theorem CycleWords.items_eq (d : CycleWords) :
    d.items =
      d.pre.map Work.word ++ Work.arbitrate :: d.ops.map Work.word ++ d.post.map Work.word ++ [Work.advance] := by
  rw [CycleWords.items, List.append_assoc (d.pre.map Work.word)]
  rfl

/-- Settles O9: the step samples and takes up the items; with the first edge the trigger is the rule's, without it
only the button is asked for. -/
theorem lightPenSampledFirst : Obligations.LightPenSampledFirst := by
  intro s d hs hd e g asked edge latched sampled
  have hsample : s.lightPenSample =
      { sampled with pen := ⟨e.penButton, edge || s.pen.lpTriggeredThisFrame⟩ } := by
    cases hedge : edge with
    | true =>
      have hsampled : sampled = raise latched 0x8 := if_pos hedge
      rw [State.lightPenSample_of_edge hedge, State.lightPenTrigger_eq, hsampled]
      rfl
    | false =>
      have hsampled : sampled = asked := if_neg (Bool.eq_false_iff.mp hedge)
      rw [State.lightPenSample_of_noEdge hedge, hsampled]
      rfl
  rw [step_of_atStep hs hd, hsample, d.items_eq]
  rfl

/-! ### The interrupt line within a `STEP` (R343)

Nothing a `STEP` does clears a flag or writes the mask register, so the line can only rise; the sink is told of the
rise, and of nothing else. -/

/-- The event tells the interrupt sink that the line is high. -/
def Event.tellsRise (e : Event) : Bool := decide (e = .setIrqLine true)

/-- From `s` to `t` the trace gained no `setIrqLine(false)`, and one `setIrqLine(true)` exactly when the line rose: so
the line did not fall. -/
def LineRises (s t : State) : Prop :=
  ∃ added, t.env.events = added ++ s.env.events ∧ (∀ e ∈ added, e.2 ≠ .setIrqLine false) ∧
    (added.filter fun e => e.2.tellsRise).length + s.irqLine.toNat = t.irqLine.toNat

section LineRises

variable {s t u : State} {i : Instr}

theorem LineRises.trans (h : LineRises s t) (h' : LineRises t u) : LineRises s u := by
  obtain ⟨first, hfirst, hquiet, hcount⟩ := h
  obtain ⟨second, hsecond, hquiet', hcount'⟩ := h'
  refine ⟨second ++ first, ?_, fun e he => (List.mem_append.mp he).elim (hquiet' e) (hquiet e), ?_⟩
  · rw [hsecond, hfirst, List.append_assoc]
  · rw [List.filter_append, List.length_append]
    omega

/-- The relation is about the trace and the interrupt line alone. -/
theorem LineRises.of_same (he : t.env.events = s.env.events) (hl : t.irqLine = s.irqLine) : LineRises s t :=
  ⟨[], he, fun _ h => absurd h List.not_mem_nil, by rw [hl]; exact Nat.zero_add _⟩

theorem LineRises.refl (s : State) : LineRises s s := .of_same rfl rfl

theorem LineRises.congr (h : LineRises s t) (he : u.env.events = t.env.events) (hl : u.irqLine = t.irqLine) :
    LineRises s u := h.trans (.of_same he hl)

/-- Telling the environment anything but the level of the line. -/
theorem LineRises.of_emit (s : State) (e : Event) (he : ∀ level, e ≠ .setIrqLine level) :
    LineRises s (s.emit e) := by
  refine ⟨[(s.cursor.globalCycleCounter, e)], rfl, fun x hx => ?_, ?_⟩
  · rw [List.mem_singleton.mp hx]
    exact he false
  · rw [List.filter_singleton, Event.tellsRise, decide_eq_false (he true), State.emit_irqLine]
    exact Nat.zero_add _

theorem LineRises.afterMemRead (s : State) (a : MemAddr) : LineRises s (s.afterMemRead a) :=
  (LineRises.of_emit s (.memRead a (s.memAnswer a)) nofun).congr rfl rfl

theorem LineRises.afterColRead (s : State) (a : ColAddr) : LineRises s (s.afterColRead a) :=
  (LineRises.of_emit s (.colRead a (s.colAnswer a)) nofun).congr rfl rfl

/-- The mask register is the one register the interrupt line looks at. -/
theorem LineRises.setReg {a : Nat} (ha : a ≠ 0x1A) (v : Byte) (s : State) : LineRises s (s.setReg a v) :=
  .of_same rfl (State.irqLine_congr rfl (State.reg_setReg_other s a 0x1A v ha))

/-- Raising flags: the line stays and the sink hears nothing, or it rises and the sink hears of it (R341, R343). -/
theorem LineRises.raiseIrq (s : State) (m : BitVec 4) : LineRises s (s.raiseIrq m) := by
  have hevents := s.raiseIrq_events m
  by_cases hsame : (s.raiseIrq m).irqLine = s.irqLine
  · rw [if_pos hsame] at hevents
    exact .of_same hevents hsame
  · have hlow : s.irqLine = false := by
      cases hs : s.irqLine with
      | false => rfl
      | true => exact absurd ((s.raiseIrq_keeps_line m hs).trans hs.symm) hsame
    have hhigh : (s.raiseIrq m).irqLine = true := by
      rw [hlow] at hsame
      exact Bool.eq_true_of_not_eq_false hsame
    rw [if_neg hsame, hhigh] at hevents
    refine ⟨[(s.cursor.globalCycleCounter, .setIrqLine true)], hevents, by simp, ?_⟩
    rw [hlow, hhigh]
    rfl

/-! #### The composed operations -/

theorem LineRises.spriteData (s : State) (n : Fin 8) (j : Fin 3) : LineRises s (s.spriteData n j) := by
  unfold State.spriteData
  dsimp only
  split
  · exact (LineRises.afterMemRead s _).congr rfl rfl
  · exact .afterMemRead s _

theorem LineRises.fetchColumn (s : State) (k : Fin 40) : LineRises s (s.fetchColumn k) :=
  ((LineRises.afterMemRead s _).trans (.afterColRead _ _)).congr rfl rfl

theorem LineRises.fetchGraphics (s : State) (k : Fin 40) : LineRises s (s.fetchGraphics k) :=
  (LineRises.afterMemRead s (s.gfxAddress k)).congr rfl rfl

/-- T_DRAW raises flags; the registers it writes are not the mask (R236). -/
theorem LineRises.drawLine (s : State) : LineRises s s.drawLine := by
  have hmask : s.drawLine.reg 0x1A = s.reg 0x1A := s.drawLine_reg_other (by decide) (by decide)
  rw [State.drawLine_eq] at hmask ⊢
  exact (LineRises.raiseIrq s _).congr rfl (State.irqLine_congr rfl (hmask.trans (State.raiseIrq_reg ..).symm))

/-- The light-pen latches are not the mask (R352). -/
theorem LineRises.lightPenTrigger (s : State) : LineRises s s.lightPenTrigger := by
  let sx := (s.emit (.lpX s.env.penX)).setReg 0x13 (BitVec.ofInt 8 (s.env.penX / 2))
  let sy := (sx.emit (.lpY s.env.penY)).setReg 0x14 (BitVec.ofInt 8 s.env.penY)
  have hx : LineRises s sx := (LineRises.of_emit s (.lpX _) nofun).trans (.setReg (a := 0x13) (by decide) _ _)
  have hy : LineRises sx sy := (LineRises.of_emit sx (.lpY _) nofun).trans (.setReg (a := 0x14) (by decide) _ _)
  exact (hx.trans (hy.trans (.raiseIrq sy flagLightPen))).congr rfl rfl

theorem LineRises.lightPenSample (s : State) : LineRises s s.lightPenSample := by
  have hbutton : LineRises s (s.emit (.lpButton s.env.penButton)) := .of_emit s _ nofun
  cases hedge : s.env.penButton && !s.pen.lpPrev && !s.pen.lpTriggeredThisFrame with
  | true =>
    rw [State.lightPenSample_of_edge hedge]
    exact (hbutton.trans (.lightPenTrigger _)).congr rfl rfl
  | false =>
    rw [State.lightPenSample_of_noEdge hedge]
    exact hbutton.congr rfl rfl

theorem LineRises.arbitrate (s : State) : LineRises s s.arbitrate := by
  unfold State.arbitrate State.seizeBus State.releaseBus
  dsimp only
  split
  · split
    · exact .of_same rfl rfl
    · exact (LineRises.of_emit s .suspendCpu nofun).congr rfl rfl
  · split
    · split
      · exact (LineRises.of_emit s .resumeCpu nofun).congr rfl rfl
      · exact .of_same rfl rfl
    · exact .of_same rfl rfl

theorem LineRises.advanceCursor (s : State) : LineRises s s.advanceCursor :=
  .of_same (congrArg _ s.advanceCursor_env) (State.irqLine_congr s.advanceCursor_irqFlags (s.advanceCursor_reg _))

/-! #### The items of a `STEP` -/

theorem execMatrix_lineRises (h : execMatrix s = .next t) : LineRises s t := by
  cases hk : matrixColumn s.cursor.cycleInLine with
  | none => cases (execMatrix_of_none hk).symm.trans h
  | some k =>
    cases (execMatrix_of_some hk).symm.trans h
    split
    · exact .fetchColumn s k
    · exact .refl s

theorem execGfx_lineRises (h : execGfx s = .next t) : LineRises s t := by
  cases hk : gfxColumn s.cursor.cycleInLine with
  | none => cases (execGfx_of_none hk).symm.trans h
  | some k =>
    cases (execGfx_of_some hk).symm.trans h
    exact .fetchGraphics s k

theorem exec_lineRises_of_busOperation (hk : i.kind = .busOperation) (h : exec i s = .next t) : LineRises s t := by
  cases i with
  | idle => cases h; exact .afterMemRead s _
  | refresh => cases h; exact (LineRises.afterMemRead s s.refreshAddress).congr rfl rfl
  | sptr n => cases h; exact (LineRises.afterMemRead s (s.pointerAddress n)).congr rfl rfl
  | sdata0 n => cases h; exact .spriteData s n 0
  | sdata1 n => cases h; exact .spriteData s n 1
  | sdata2 n => cases h; exact .spriteData s n 2
  | matrix => exact execMatrix_lineRises h
  | gfx => exact execGfx_lineRises h
  | _ => cases hk

/-- Only T_RASTER and T_DRAW touch the trace or the line, by raising flags (R236, R345). -/
theorem exec_lineRises_of_trigger (hk : i.kind = .trigger) (h : exec i s = .next t) : LineRises s t := by
  cases i with
  | tRaster =>
    cases h
    split
    · exact .raiseIrq s _
    · exact .refl s
  | tDraw => cases h; exact .drawLine s
  | tBadline | tVborder | tClearline | tVcload | tSpradv | tYexp | tDmachk | tSprdisp | tRcadv | tHleft | tHright
  | tBsample0 | tBsample1 | tBsample2 | tBsample3 | tBsample4 => cases h; exact .of_same rfl rfl
  | _ => cases hk

/-- A micro-operation word holds no port instruction: those that can lower the line are the CPU's (R79, R95). -/
theorem performWord_lineRises {w : Byte} (h : performWord w s = .next t) : LineRises s t := by
  unfold performWord at h
  split at h
  · rename_i i hi
    obtain ⟨hformat, -⟩ := format_encode_of_decodeMicroOp hi
    cases hk : i.kind with
    | port => cases (Instr.format_of_kind_port hk).symm.trans hformat
    | busOperation => exact exec_lineRises_of_busOperation hk h
    | trigger => exact exec_lineRises_of_trigger hk h
  · cases h

theorem performWork_lineRises {w : Work} (h : performWork w s = .next t) : LineRises s t := by
  cases w with
  | word w => exact performWord_lineRises h
  | arbitrate => cases h; exact .arbitrate s
  | advance => cases h; exact .advanceCursor s

theorem runWork_lineRises {ws : List Work} (h : runWork ws s = .next t) : LineRises s t := by
  induction ws generalizing s with
  | nil => cases h; exact .refl _
  | cons w ws ih =>
    obtain ⟨u, hu, hrest⟩ := (Result.andThen_eq_next _ _ _).mp h
    exact (performWork_lineRises hu).trans (ih hrest)

theorem chipStep_lineRises (h : chipStep s = .next t) : LineRises s t := by
  unfold chipStep at h
  split at h
  · cases h
  · exact (LineRises.lightPenSample s).trans (runWork_lineRises h)

end LineRises

/-- Settles O56: each `setIrqLine(true)` is a rise of a line that does not fall, so there is at most one. -/
theorem lineOnlyRisesWithinAStep : Obligations.LineOnlyRisesWithinAStep := by
  intro s t h
  obtain ⟨added, hadded, hquiet, hcount⟩ := chipStep_lineRises h
  refine ⟨added, hadded, hquiet, ?_⟩
  calc (added.filter fun e => e.2.tellsRise).length ≤ t.irqLine.toNat := by omega
    _ ≤ 1 := Bool.toNat_le _

end Sys2Proof.Machine

/-! PROOFS of the statements of spec/70_reset_and_hazards.md: `RESET` from any state, and construction (R370 to
R375). -/

namespace Sys2Proof.Machine

-- As in the tests: proofs elaborated side by side take more memory than a check of the package has.
set_option Elab.async false

/-! ### `RESET` (R50, R370, R371) -/

/-- `RESET` in one piece: the reset state with the events of the two lines, at `G = 0` (R370, R371). -/
theorem State.resetChip_eq_atReset (s : State) :
    s.resetChip = State.atReset s.params { s.env with
      events :=
        (if s.irqLine then [(0, .setIrqLine false)] else []) ++
        (if s.arbiter.cpuSuspended then [(0, .resumeCpu)] else []) ++ s.env.events } := by
  unfold State.resetChip
  cases s.irqLine <;> cases s.arbiter.cpuSuspended <;> rfl

/-- After reset every pixel has colour 0: no row is listed (R33, R50). -/
theorem State.atReset_framePixel (p : Params) (e : Environment) (y x : Nat) :
    (State.atReset p e).framePixel y x = 0 :=
  List.getElem?_getD_replicate_default_eq _ _ _

/-- Settles O50: `RESET` is the reset state, whose elements are read off one by one. -/
theorem resetFromAnyState : Obligations.ResetFromAnyState := by
  intro s rest ha hr
  refine ⟨(s.withRequests rest).resetChip, step_of_requests ha hr, ?_⟩
  rw [State.resetChip_eq_atReset, State.irqLine_eq_lineOf]
  exact ⟨rfl, rfl, fun a => Vector.getElem_replicate a.isLt, rfl, rfl, rfl,
    fun k => ⟨Vector.getElem_replicate k.isLt, Vector.getElem_replicate k.isLt⟩,
    fun i => Vector.getElem_replicate i.isLt, rfl, rfl, rfl, rfl, rfl, State.atReset_framePixel _ _, rfl, rfl⟩

/-! ### Construction (R374, R375) -/

theorem paramsValid_iff {p : Params} : p.valid = true ↔ 0xF7 < p.totalLines ∧ p.totalLines ≤ 512 := by
  simp [Params.valid]

/-- A chip in the state of `RESET` stays in it, without an event. -/
theorem State.atReset_resetChip (p : Params) (e : Environment) :
    (State.atReset p e).resetChip = State.atReset p e := by
  rw [State.resetChip_eq_atReset, State.atReset_irqLine]
  rfl

/-- Right after construction nothing has been told to the environment, and both output lines are as if so. -/
theorem State.atReset_traceGood (p : Params) : (State.atReset p .initial).TraceGood where
  suspended := rfl
  alternate := rfl
  told := (State.atReset_irqLine p .initial).symm

theorem State.atReset_initial_good {p : Params} (hp : p.valid = true) : (State.atReset p .initial).Good :=
  State.atReset_good hp (Memory.wf_nil _ _) (Memory.wf_nil _ _) fun _ h => absurd h List.not_mem_nil

/-- Settles O51: the range of the parameters decides, and the chip is the reset state in the initial environment. -/
theorem constructionByTheParameters : Obligations.ConstructionByTheParameters := by
  intro p
  constructor
  · intro hout
    exact if_neg fun hvalid => by
      obtain ⟨hlow, hhigh⟩ := paramsValid_iff.mp hvalid
      omega
  · intro hlow hhigh
    have hvalid : p.valid = true := paramsValid_iff.mpr ⟨hlow, hhigh⟩
    exact ⟨State.atReset p .initial, if_pos hvalid, rfl, rfl, State.atReset_resetChip p .initial,
      State.atReset_irqLine p .initial, State.atReset_initial_good hvalid, State.atReset_traceGood p⟩

end Sys2Proof.Machine
